-- ==== Sys2Proof/Word.lean ====
section
/-! DEFINITION. The two word sizes of the machine: a byte is 8 bits, a word (an address, the program counter) is
16 bits (`00_scope.md` R5, section 5.1). -/
namespace Sys2Proof

/-- 8 bits: a register, the status byte, a memory byte, an opcode (R5). -/
abbrev Byte := BitVec 8

/-- 16 bits: an address or the program counter (R5, R30). -/
abbrev Word := BitVec 16

end Sys2Proof
end

