-- ==== Sys2Proof/Config.lean ====
section
/-! DEFINITION. What the spec leaves to a model as parameters (`00_scope.md` R7): the opcode table `OPTABLE` and the
setting `REDIRECT_DETECT`. Here are their types; the tables themselves stand in `Decode.lean`, the setting the default
step takes in `Machine/Table.lean`. The spec leaves no result, flag or register of any instruction open, so there is no
free value. -/
namespace Sys2Proof

/-- The 13 mnemonics (R1, R56). -/
inductive Mnemonic where
  | and | asl | bcc | bcs | beq | bit | lda | ldx | ldy | tax | sta | inx | brk
  deriving DecidableEq, Repr

/-- The closed set of 12 addressing modes (R55). -/
inductive Mode where
  | implicit | accumulator | immediate | zeroPage | zeroPageX | zeroPageY
  | absolute | absoluteX | absoluteY | indirectX | indirectY | relative
  deriving DecidableEq, Repr

/-- One row of the opcode table: opcode byte, mnemonic, addressing mode and byte length, the opcode byte counted
(R55). -/
structure Descriptor where
  opcode   : Byte
  mnemonic : Mnemonic
  mode     : Mode
  length   : Nat
  deriving DecidableEq, Repr

/-- `OPTABLE`: a finite table of descriptors (R7, R55). Whether it is one the machine accepts is `OpTable.wf`. -/
abbrev OpTable := List Descriptor

/-- `REDIRECT_DETECT`: how the step decides that an instruction redirected control flow (R96, R97). -/
inductive RedirectDetect where
  /-- `PC` compared with its value before execution (R96, the default). -/
  | pcCompare
  /-- the instruction reports it in the transient `REDIRECTED` (R97). -/
  | explicit
  deriving DecidableEq, Repr

/-- The two parameters of a core (R7). -/
structure Config where
  optable  : OpTable
  redirect : RedirectDetect
  deriving DecidableEq, Repr

end Sys2Proof
end

