-- ==== Sys2Proof/Syntax.lean ====
section
/-! DEFINITION. The instructions: one constructor per row of `spec/opcode_table.json` (`30_encoding.md` R56), each carrying
the operand the row's format gives it (R51): nothing, the byte `b1`, or the little-endian word `w` of the bytes `b1`, `b2`.
`Operand` is the twelve operand forms with what each carries. -/
namespace Sys2Proof

/-- The twelve operand forms (R54), each with its operand bytes: `b1`, or the word `w` formed of `b2` and `b1`. -/
inductive Operand where
  | implicit
  | accumulator
  | immediate (b1 : Byte)
  | zeroPage (b1 : Byte)
  | zeroPageX (b1 : Byte)
  | zeroPageY (b1 : Byte)
  | absolute (w : Word)
  | absoluteX (w : Word)
  | absoluteY (w : Word)
  | indirectX (b1 : Byte)
  | indirectY (b1 : Byte)
  | relative (b1 : Byte)
  deriving DecidableEq, Repr

/-- The 46 instructions of the default opcode table (R56, R86), in the table's order. -/
inductive Instr where
  /-- `AND #b1` (R111). -/
  | andImmediate (b1 : Byte)
  /-- `AND b1` (R112). -/
  | andZeroPage (b1 : Byte)
  /-- `AND b1,X` (R113). -/
  | andZeroPageX (b1 : Byte)
  /-- `AND w` (R114). -/
  | andAbsolute (w : Word)
  /-- `AND w,X` (R115). -/
  | andAbsoluteX (w : Word)
  /-- `AND w,Y` (R116). -/
  | andAbsoluteY (w : Word)
  /-- `AND (b1,X)` (R117). -/
  | andIndirectX (b1 : Byte)
  /-- `AND (b1),Y` (R118). -/
  | andIndirectY (b1 : Byte)
  /-- `ASL A` (R120). -/
  | aslAccumulator
  /-- `ASL b1` (R121). -/
  | aslZeroPage (b1 : Byte)
  /-- `ASL b1,X` (R122). -/
  | aslZeroPageX (b1 : Byte)
  /-- `ASL w` (R123). -/
  | aslAbsolute (w : Word)
  /-- `ASL w,X` (R124). -/
  | aslAbsoluteX (w : Word)
  /-- `BCC b1` (R142). -/
  | bcc (b1 : Byte)
  /-- `BCS b1` (R143). -/
  | bcs (b1 : Byte)
  /-- `BEQ b1` (R144). -/
  | beq (b1 : Byte)
  /-- `BIT b1` (R126). -/
  | bitZeroPage (b1 : Byte)
  /-- `BIT w` (R127). -/
  | bitAbsolute (w : Word)
  /-- `LDA #b1` (R151). -/
  | ldaImmediate (b1 : Byte)
  /-- `LDA b1` (R152). -/
  | ldaZeroPage (b1 : Byte)
  /-- `LDA b1,X` (R153). -/
  | ldaZeroPageX (b1 : Byte)
  /-- `LDA w` (R154). -/
  | ldaAbsolute (w : Word)
  /-- `LDA w,X` (R155). -/
  | ldaAbsoluteX (w : Word)
  /-- `LDA w,Y` (R156). -/
  | ldaAbsoluteY (w : Word)
  /-- `LDA (b1,X)` (R157). -/
  | ldaIndirectX (b1 : Byte)
  /-- `LDA (b1),Y` (R158). -/
  | ldaIndirectY (b1 : Byte)
  /-- `LDX #b1` (R160). -/
  | ldxImmediate (b1 : Byte)
  /-- `LDX b1` (R161). -/
  | ldxZeroPage (b1 : Byte)
  /-- `LDX b1,Y` (R162). -/
  | ldxZeroPageY (b1 : Byte)
  /-- `LDX w` (R163). -/
  | ldxAbsolute (w : Word)
  /-- `LDX w,Y` (R164). -/
  | ldxAbsoluteY (w : Word)
  /-- `LDY #b1` (R166). -/
  | ldyImmediate (b1 : Byte)
  /-- `LDY b1` (R167). -/
  | ldyZeroPage (b1 : Byte)
  /-- `LDY b1,X` (R168). -/
  | ldyZeroPageX (b1 : Byte)
  /-- `LDY w` (R169). -/
  | ldyAbsolute (w : Word)
  /-- `LDY w,X` (R170). -/
  | ldyAbsoluteX (w : Word)
  /-- `TAX` (R190). -/
  | tax
  /-- `STA b1` (R172). -/
  | staZeroPage (b1 : Byte)
  /-- `STA b1,X` (R173). -/
  | staZeroPageX (b1 : Byte)
  /-- `STA w` (R174). -/
  | staAbsolute (w : Word)
  /-- `STA w,X` (R175). -/
  | staAbsoluteX (w : Word)
  /-- `STA w,Y` (R176). -/
  | staAbsoluteY (w : Word)
  /-- `STA (b1,X)` (R177). -/
  | staIndirectX (b1 : Byte)
  /-- `STA (b1),Y` (R178). -/
  | staIndirectY (b1 : Byte)
  /-- `INX` (R191). -/
  | inx
  /-- `BRK` (R195). -/
  | brk
  deriving DecidableEq, Repr

end Sys2Proof
end

