-- ==== Sys2Proof/Machine/State.lean ====
section
/-! DEFINITION. The state of the core, all of it (`10_state.md`): `A`, `X`, `Y`, `P`, `PC`, the memory `M`, the run state
`RS`, the halt cause `HC`, and the transients `PBD` and `REDIRECTED` that exist only inside a step. Plain data. -/
namespace Sys2Proof.Machine

/-- The memory `M` (R20, R30): (address, byte) pairs, in the canonical form `Memory.wf`. An address that is not listed
reads as `Memory.blank`. -/
abbrev Memory := List Host.Cell

/-- The four named flags of the status byte (R14). -/
inductive Flag where
  | carry | zero | overflow | negative
  deriving DecidableEq, Repr

/-- `RS`, the run state (R21). -/
inductive RunState where
  | reset | running | halted
  deriving DecidableEq, Repr

/-- `HC`, why the core halted (R22, R200). -/
inductive HaltCause where
  /-- not halted -/
  | none
  /-- the normal halt, by BRK (R195) -/
  | brk
  /-- fatal: a byte fetched as an opcode is not in the table; the byte, and the address it was fetched from (R201) -/
  | unrecognizedOpcode (op : Byte) (pc : Word)
  /-- fatal: an address was requested of a mode that has none (R202) -/
  | unsupportedAddressingMode (mode : Mode)
  deriving DecidableEq, Repr

/-- The whole state of the core. -/
structure State where
  /-- `A`, the accumulator (R10) -/
  a : Byte
  /-- `X`, an index register (R11) -/
  x : Byte
  /-- `Y`, an index register (R12) -/
  y : Byte
  /-- `P`, the status byte: bit 0 Carry, 1 Zero, 6 Overflow, 7 Negative; bits 2 to 5 have no name (R14, R16) -/
  p : Byte
  /-- `PC` (R13): between steps the address of the next opcode, during execution the address after it -/
  pc : Word
  /-- `M` (R20) -/
  mem : Memory
  /-- `RS` (R21) -/
  rs : RunState
  /-- `HC` (R22) -/
  hc : HaltCause
  /-- `PBD` (R23): the `PC` after the opcode fetch, inside a step; no value between steps (R26's table) -/
  pbd : Option Word
  /-- `REDIRECTED` (R23, R97): inside a step, whether a branch was taken; false between steps -/
  redirected : Bool
  deriving DecidableEq, Repr

/-- Reasons a step could stop with no next state. There are none: both fatal conditions of the spec have an entry it
describes, `RS <- Halted` and `HC <-` the cause (R204), so the step answers the halted state (log 3). -/
inductive Fault where
  deriving DecidableEq, Repr

/-- Reasons an instruction has no meaning. No arm of `exec` answers one: every instruction has its meaning. -/
inductive Refusal where
  /-- raised by an arm of `exec` whose instruction has no meaning yet (none has it); safe, since the run stops -/
  | notModelled (mnemonic : String)
  deriving DecidableEq, Repr

/-- `construct()`: the core at power-on (R220, R26). -/
def State.construct : State :=
  { a := 0, x := 0, y := 0, p := 0, pc := 0, mem := [], rs := .reset, hc := .none, pbd := .none, redirected := false }

/-- The machine right after `reset()` of a freshly constructed core (R221, R26): the reset vector of a memory with
nothing listed is 0x0000, so `PC` is 0x0000 (log 6). -/
def State.reset : State := { State.construct with rs := .running }

end Sys2Proof.Machine
end

