-- ==== Sys2Proof/Machine/Flags.lean ====
section
/-! DEFINITION. The flags of the status byte `P` and the ways instructions write them (`10_state.md` R14 to R18). -/
namespace Sys2Proof.Machine

/-- The mask of a flag (R14). -/
def Flag.mask : Flag → Byte
  | .carry => 0b00000001
  | .zero => 0b00000010
  | .overflow => 0b01000000
  | .negative => 0b10000000

/-- `set(f)`: `P <- P | m` (R15). -/
def State.setFlag (s : State) (f : Flag) : State := { s with p := s.p ||| f.mask }

/-- `clear(f)`: `P <- P & ~m` (R15). -/
def State.clearFlag (s : State) (f : Flag) : State := { s with p := s.p &&& ~~~f.mask }

/-- `test(f)`: `(P & m) != 0` (R15). -/
def State.testFlag (s : State) (f : Flag) : Bool := s.p &&& f.mask != 0

/-- `P.f <- b`: `set` or `clear`, chosen by the condition (R15). -/
def State.writeFlag (s : State) (f : Flag) (b : Bool) : State := if b then s.setFlag f else s.clearFlag f

/-- `SetZN(v)`: Zero from `v == 0`, Negative from bit 7 of `v` (R17). -/
def State.setZN (s : State) (v : Byte) : State :=
  (s.writeFlag .zero (v == 0)).writeFlag .negative (v.getLsbD 7)

/-- The flags of ASL with operand `v` and result `r`: Carry from bit 7 of the operand, then `SetZN` of the result
(R119). -/
def State.setShiftFlags (s : State) (v r : Byte) : State := (s.writeFlag .carry (v.getLsbD 7)).setZN r

/-- The flags of BIT with operand `v`: Zero from `A & v`, Overflow and Negative from bits 6 and 7 of `v` itself
(R125). -/
def State.setBitFlags (s : State) (v : Byte) : State :=
  ((s.writeFlag .zero (s.a &&& v == 0)).writeFlag .overflow (v.getLsbD 6)).writeFlag .negative (v.getLsbD 7)

end Sys2Proof.Machine
end

