-- ==== Sys2Proof/Machine/Format.lean ====
section
/-! DEFINITION. Formats and byte order (`30_encoding.md` R50 to R54; `20_memory.md` R37): how two bytes make a word, the
length each addressing mode gives an instruction, and which mnemonic, operand form and operand bytes each instruction
has. -/
namespace Sys2Proof

/-- The word of a high and a low byte, `hi * 256 + lo` (`00_scope.md` section 5.1). -/
def wordOf (hi lo : Byte) : Word := hi ++ lo

/-- Bits 7:0 of a word. -/
def lowByte (w : Word) : Byte := w.extractLsb' 0 8

/-- Bits 15:8 of a word. -/
def highByte (w : Word) : Byte := w.extractLsb' 8 8

/-- `zext_16`: a byte as a word with a high byte of 0x00 (`00_scope.md` section 5.1). -/
def zext16 (b : Byte) : Word := b.setWidth 16

/-- The instruction length a mode gives, the opcode byte counted (R52, D2). -/
def Mode.length : Mode → Nat
  | .implicit | .accumulator => 1
  | .immediate | .zeroPage | .zeroPageX | .zeroPageY | .indirectX | .indirectY | .relative => 2
  | .absolute | .absoluteX | .absoluteY => 3

/-- The addressing mode of an operand form. -/
def Operand.mode : Operand → Mode
  | .implicit => .implicit
  | .accumulator => .accumulator
  | .immediate _ => .immediate
  | .zeroPage _ => .zeroPage
  | .zeroPageX _ => .zeroPageX
  | .zeroPageY _ => .zeroPageY
  | .absolute _ => .absolute
  | .absoluteX _ => .absoluteX
  | .absoluteY _ => .absoluteY
  | .indirectX _ => .indirectX
  | .indirectY _ => .indirectY
  | .relative _ => .relative

/-- The operand bytes in memory order: none, `b1`, or `b1` then `b2`, low byte first (R50, R51). -/
def Operand.bytes : Operand → List Byte
  | .implicit | .accumulator => []
  | .immediate b1 | .zeroPage b1 | .zeroPageX b1 | .zeroPageY b1 | .indirectX b1 | .indirectY b1 | .relative b1 => [b1]
  | .absolute w | .absoluteX w | .absoluteY w => [lowByte w, highByte w]

/-- The mnemonic of an instruction (R56). -/
def Instr.mnemonic : Instr → Mnemonic
  | .andImmediate _ => .and
  | .andZeroPage _ => .and
  | .andZeroPageX _ => .and
  | .andAbsolute _ => .and
  | .andAbsoluteX _ => .and
  | .andAbsoluteY _ => .and
  | .andIndirectX _ => .and
  | .andIndirectY _ => .and
  | .aslAccumulator => .asl
  | .aslZeroPage _ => .asl
  | .aslZeroPageX _ => .asl
  | .aslAbsolute _ => .asl
  | .aslAbsoluteX _ => .asl
  | .bcc _ => .bcc
  | .bcs _ => .bcs
  | .beq _ => .beq
  | .bitZeroPage _ => .bit
  | .bitAbsolute _ => .bit
  | .ldaImmediate _ => .lda
  | .ldaZeroPage _ => .lda
  | .ldaZeroPageX _ => .lda
  | .ldaAbsolute _ => .lda
  | .ldaAbsoluteX _ => .lda
  | .ldaAbsoluteY _ => .lda
  | .ldaIndirectX _ => .lda
  | .ldaIndirectY _ => .lda
  | .ldxImmediate _ => .ldx
  | .ldxZeroPage _ => .ldx
  | .ldxZeroPageY _ => .ldx
  | .ldxAbsolute _ => .ldx
  | .ldxAbsoluteY _ => .ldx
  | .ldyImmediate _ => .ldy
  | .ldyZeroPage _ => .ldy
  | .ldyZeroPageX _ => .ldy
  | .ldyAbsolute _ => .ldy
  | .ldyAbsoluteX _ => .ldy
  | .tax => .tax
  | .staZeroPage _ => .sta
  | .staZeroPageX _ => .sta
  | .staAbsolute _ => .sta
  | .staAbsoluteX _ => .sta
  | .staAbsoluteY _ => .sta
  | .staIndirectX _ => .sta
  | .staIndirectY _ => .sta
  | .inx => .inx
  | .brk => .brk

/-- The operand form of an instruction, with its operand (R56, R86). -/
def Instr.operand : Instr → Operand
  | .andImmediate b1 => .immediate b1
  | .andZeroPage b1 => .zeroPage b1
  | .andZeroPageX b1 => .zeroPageX b1
  | .andAbsolute w => .absolute w
  | .andAbsoluteX w => .absoluteX w
  | .andAbsoluteY w => .absoluteY w
  | .andIndirectX b1 => .indirectX b1
  | .andIndirectY b1 => .indirectY b1
  | .aslAccumulator => .accumulator
  | .aslZeroPage b1 => .zeroPage b1
  | .aslZeroPageX b1 => .zeroPageX b1
  | .aslAbsolute w => .absolute w
  | .aslAbsoluteX w => .absoluteX w
  | .bcc b1 => .relative b1
  | .bcs b1 => .relative b1
  | .beq b1 => .relative b1
  | .bitZeroPage b1 => .zeroPage b1
  | .bitAbsolute w => .absolute w
  | .ldaImmediate b1 => .immediate b1
  | .ldaZeroPage b1 => .zeroPage b1
  | .ldaZeroPageX b1 => .zeroPageX b1
  | .ldaAbsolute w => .absolute w
  | .ldaAbsoluteX w => .absoluteX w
  | .ldaAbsoluteY w => .absoluteY w
  | .ldaIndirectX b1 => .indirectX b1
  | .ldaIndirectY b1 => .indirectY b1
  | .ldxImmediate b1 => .immediate b1
  | .ldxZeroPage b1 => .zeroPage b1
  | .ldxZeroPageY b1 => .zeroPageY b1
  | .ldxAbsolute w => .absolute w
  | .ldxAbsoluteY w => .absoluteY w
  | .ldyImmediate b1 => .immediate b1
  | .ldyZeroPage b1 => .zeroPage b1
  | .ldyZeroPageX b1 => .zeroPageX b1
  | .ldyAbsolute w => .absolute w
  | .ldyAbsoluteX w => .absoluteX w
  | .tax => .implicit
  | .staZeroPage b1 => .zeroPage b1
  | .staZeroPageX b1 => .zeroPageX b1
  | .staAbsolute w => .absolute w
  | .staAbsoluteX w => .absoluteX w
  | .staAbsoluteY w => .absoluteY w
  | .staIndirectX b1 => .indirectX b1
  | .staIndirectY b1 => .indirectY b1
  | .inx => .implicit
  | .brk => .implicit

/-- The number of bytes of an instruction (R52). -/
def Instr.length (i : Instr) : Nat := i.operand.mode.length

end Sys2Proof
end

