-- ==== Sys2Proof/Machine/Ops.lean ====
section
/-! DEFINITION. The named operations over memory (`20_memory.md`), the ends of a run (`46_brk_and_unrecognized.md`,
`60_exceptions.md`) and the parts of a step around the execution of an instruction (`41_step_cycle.md`). -/
namespace Sys2Proof.Machine

/-! ### Memory -/

/-- What an address that nothing has written reads as: memory is 0x00 after construction (R20, R220). -/
def Memory.blank : Byte := 0x00

/-- The byte at an address. -/
def Memory.get : Memory → Nat → Byte
  | [], _ => Memory.blank
  | c :: m, k => if c.1 = k then c.2 else Memory.get m k

/-- The memory without the entry of an address. -/
def Memory.erase (m : Memory) (k : Nat) : Memory := m.filter fun c => c.1 != k

/-- An entry put before the first one with a larger address. -/
def Memory.insert (c : Host.Cell) : Memory → Memory
  | [] => [c]
  | d :: m => if c.1 < d.1 then c :: d :: m else d :: Memory.insert c m

/-- The memory with one byte written; a byte equal to `Memory.blank` is not listed. -/
def Memory.set (m : Memory) (k : Nat) (v : Byte) : Memory :=
  if v = Memory.blank then m.erase k else Memory.insert (k, v) (m.erase k)

/-- The canonical form: addresses of the 16-bit space (R30), strictly rising, no entry equal to `Memory.blank`. -/
def Memory.wf (m : Memory) : Bool :=
  decide (m.Pairwise fun c d => c.1 < d.1) && m.all fun c => decide (c.1 < 65536) && c.2 != Memory.blank

/-- `MemRead(addr, 1)` (R31). -/
def State.readByte (s : State) (addr : Word) : Byte := Memory.get s.mem addr.toNat

/-- `MemWrite(addr, 1, v)` (R32): every address is writable, and nothing else changes. -/
def State.writeByte (s : State) (addr : Word) (v : Byte) : State := { s with mem := Memory.set s.mem addr.toNat v }

/-- `MemRead(addr, 2)`: the byte at the lower address is the low byte; after 0xFFFF comes 0x0000 (R33, R39, D10). -/
def State.readWord (s : State) (addr : Word) : Word := wordOf (s.readByte (addr + 1)) (s.readByte addr)

/-- `MemWrite(addr, 2, v)` (R34). -/
def State.writeWord (s : State) (addr : Word) (v : Word) : State :=
  (s.writeByte addr (lowByte v)).writeByte (addr + 1) (highByte v)

/-- `MemReadZP16(p)`: a word read that wraps inside the zero page (R35). -/
def State.readZeroPageWord (s : State) (p : Byte) : Word := wordOf (s.readByte (zext16 (p + 1))) (s.readByte (zext16 p))

/-- A sequence of bytes written at ascending addresses from `addr`. -/
def State.writeBytes (s : State) (addr : Word) : List Byte → State
  | [] => s
  | b :: bs => (s.writeByte addr b).writeBytes (addr + 1) bs

/-! ### The ends of a run -/

/-- Entering a fatal condition raised by the instruction whose opcode is at `a0`: `RS <- Halted`, `HC <-` the condition,
nothing saved and nothing else changed, with `PC` at `a0`, as before the step (R204, R99; C1, D6, D24). The only way out
is the host's `reset()` (R205). -/
def State.raise (s : State) (cause : HaltCause) (a0 : Word) : State :=
  { s with rs := .halted, hc := cause, pc := a0 }

/-- `halt Brk`: `RS <- Halted; HC <- Brk` (R195). -/
def State.haltBrk (s : State) : State := { s with rs := .halted, hc := .brk }

/-! ### Around the execution of an instruction -/

/-- The three bytes an instruction at `PC` can take: the opcode and two operand bytes (R50). A read has no side effect
(R31, R36), so reading more than the instruction uses changes nothing (log 8). -/
def State.fetchBytes (s : State) : List Byte :=
  [s.readByte s.pc, s.readByte (s.pc + 1), s.readByte (s.pc + 2)]

/-- After the opcode fetch: `PC` at the first operand byte (R91), its snapshot in `PBD` (R92), `REDIRECTED` 0 (R98). -/
def State.beginExecution (s : State) : State :=
  { s with pc := s.pc + 1, pbd := some (s.pc + 1), redirected := false }

/-- The address of the opcode being executed, `A0 = PBD -16 1` (R92). -/
def State.opcodeAddress (s : State) : Word :=
  match s.pbd with
  | some a1 => a1 - 1
  | none => s.pc

/-- Whether the instruction redirected control flow: `PC != PBD` (R96), or as it reported (R97). -/
def State.hasRedirected (s : State) : RedirectDetect → Bool
  | .pcCompare => s.pbd != some s.pc
  | .explicit => s.redirected

/-- The transients end with the step (R23). -/
def State.endStep (s : State) : State := { s with pbd := none, redirected := false }

/-- The advance (R95): past the operand bytes of an instruction of `length` bytes, unless it redirected control flow or
halted the core (R98). -/
def State.advance (s : State) (detect : RedirectDetect) (length : Nat) : State :=
  if s.rs = .halted || s.hasRedirected detect then s.endStep
  else { s.endStep with pc := s.pc + (BitVec.ofNat 16 length - 1) }

/-- An instruction put where the next step fetches, with the core running so that the step fetches at all (R90); log
21. -/
def State.placeAtPc (s : State) (bytes : List Byte) : State :=
  { s.writeBytes s.pc bytes with rs := .running, hc := .none }

end Sys2Proof.Machine
end

