-- ==== Sys2Proof/Machine/Operands.lean ====
section
/-! DEFINITION. The addressing-mode resolver (`40_addressing_modes.md`): the effective address and the operand value of each
of the twelve operand forms. It only reads the state (R70). An operand form carries its operand bytes as the decoder read
them; `State.operandAt` reads them at `PC`, so the two together are R84's resolver (log 9). -/
namespace Sys2Proof.Machine

/-- `EA(mode)` (R71 to R82): none for Accumulator and Implicit, which have no address. -/
def State.effectiveAddress (s : State) : Operand → Option Word
  | .implicit | .accumulator => none
  | .immediate _ | .relative _ => some s.pc
  | .zeroPage b1 => some (zext16 b1)
  | .zeroPageX b1 => some (zext16 (b1 + s.x))
  | .zeroPageY b1 => some (zext16 (b1 + s.y))
  | .absolute w => some w
  | .absoluteX w => some (w + zext16 s.x)
  | .absoluteY w => some (w + zext16 s.y)
  | .indirectX b1 => some (s.readZeroPageWord (b1 + s.x))
  | .indirectY b1 => some (s.readZeroPageWord b1 + zext16 s.y)

/-- `Operand(mode)` (R83): `A` for Accumulator, the instruction's own byte for Immediate and Relative (R71, R72), the
byte at the effective address otherwise; none for Implicit. -/
def State.operandValue (s : State) : Operand → Option Byte
  | .implicit => none
  | .accumulator => some s.a
  | .immediate b1 | .relative b1 => some b1
  | o => (s.effectiveAddress o).map s.readByte

/-- The operand form of a mode, its operand bytes read at `PC` (R54, R70). -/
def State.operandAt (s : State) : Mode → Operand
  | .implicit => .implicit
  | .accumulator => .accumulator
  | .immediate => .immediate (s.readByte s.pc)
  | .zeroPage => .zeroPage (s.readByte s.pc)
  | .zeroPageX => .zeroPageX (s.readByte s.pc)
  | .zeroPageY => .zeroPageY (s.readByte s.pc)
  | .absolute => .absolute (s.readWord s.pc)
  | .absoluteX => .absoluteX (s.readWord s.pc)
  | .absoluteY => .absoluteY (s.readWord s.pc)
  | .indirectX => .indirectX (s.readByte s.pc)
  | .indirectY => .indirectY (s.readByte s.pc)
  | .relative => .relative (s.readByte s.pc)

/-- An instruction rule that asks for the operand value; where the mode has none it raises
`UnsupportedAddressingMode` (R82, R202). -/
def State.withOperand (s : State) (o : Operand) (k : Byte → State) : State :=
  match s.operandValue o with
  | some v => k v
  | none => s.raise (.unsupportedAddressingMode o.mode) s.opcodeAddress

/-- An instruction rule that asks for the effective address; where the mode has none it raises
`UnsupportedAddressingMode` (R81, R82, R202). -/
def State.withAddress (s : State) (o : Operand) (k : Word → State) : State :=
  match s.effectiveAddress o with
  | some ea => k ea
  | none => s.raise (.unsupportedAddressingMode o.mode) s.opcodeAddress

end Sys2Proof.Machine
end

