-- ==== Sys2Proof/Machine/Branch.lean ====
section
/-! DEFINITION. The conditional branches BCC, BCS, BEQ (`43_branches.md`). -/
namespace Sys2Proof.Machine

/-- The magnitude of an offset byte, its bits 6:0, as a word (R140). -/
def offsetMagnitude (b1 : Byte) : Word := zext16 (b1 &&& 0x7F)

/-- The target from the address `base` after the offset byte: bit 7 of the offset is its sign, bits 6:0 its magnitude,
and the sum or difference wraps at 16 bits (R140, R141, D3). -/
def branchTarget (base : Word) (b1 : Byte) : Word :=
  if b1.getLsbD 7 then base - offsetMagnitude b1 else base + offsetMagnitude b1

/-- `Branch(cond)` with `PC == A1`: a taken branch writes `PC` from `base = PC +16 1` and reports the redirection; one not
taken writes nothing (R141, D4). -/
def branchOp (cond : Bool) (b1 : Byte) (s : State) : State :=
  if cond then { s with pc := branchTarget (s.pc + 1) b1, redirected := true } else s

/-- `BCC b1`, opcode 0x90: `Branch(P.C == 0)` (R142). -/
def execBcc (b1 : Byte) (s : State) : Host.Outcome State Fault Refusal := .next (branchOp (!s.testFlag .carry) b1 s)

/-- `BCS b1`, opcode 0xB0: `Branch(P.C == 1)` (R143). -/
def execBcs (b1 : Byte) (s : State) : Host.Outcome State Fault Refusal := .next (branchOp (s.testFlag .carry) b1 s)

/-- `BEQ b1`, opcode 0xF0: `Branch(P.Z == 1)` (R144). -/
def execBeq (b1 : Byte) (s : State) : Host.Outcome State Fault Refusal := .next (branchOp (s.testFlag .zero) b1 s)

end Sys2Proof.Machine
end

