-- ==== Sys2Proof/Machine/LoadStore.lean ====
section
/-! DEFINITION. The loads LDA, LDX, LDY and the store STA (`44_load_store.md`). -/
namespace Sys2Proof.Machine

/-- LDA: `A <- Operand(mode); SetZN(A)` (R150). -/
def ldaOp (o : Operand) (s : State) : State := s.withOperand o fun v => { s with a := v }.setZN v

/-- LDX: `X <- Operand(mode); SetZN(X)` (R159). -/
def ldxOp (o : Operand) (s : State) : State := s.withOperand o fun v => { s with x := v }.setZN v

/-- LDY: `Y <- Operand(mode); SetZN(Y)` (R165). -/
def ldyOp (o : Operand) (s : State) : State := s.withOperand o fun v => { s with y := v }.setZN v

/-- STA: `MemWrite(EA(mode), 1, A)`, no flag effect (R171). -/
def staOp (o : Operand) (s : State) : State := s.withAddress o fun ea => s.writeByte ea s.a

/-- `LDA #b1`, opcode 0xA9 (R151). -/
def execLdaImmediate (b1 : Byte) (s : State) : Host.Outcome State Fault Refusal := .next (ldaOp (.immediate b1) s)

/-- `LDA b1`, opcode 0xA5 (R152). -/
def execLdaZeroPage (b1 : Byte) (s : State) : Host.Outcome State Fault Refusal := .next (ldaOp (.zeroPage b1) s)

/-- `LDA b1,X`, opcode 0xB5 (R153). -/
def execLdaZeroPageX (b1 : Byte) (s : State) : Host.Outcome State Fault Refusal := .next (ldaOp (.zeroPageX b1) s)

/-- `LDA w`, opcode 0xAD (R154). -/
def execLdaAbsolute (w : Word) (s : State) : Host.Outcome State Fault Refusal := .next (ldaOp (.absolute w) s)

/-- `LDA w,X`, opcode 0xBD (R155). -/
def execLdaAbsoluteX (w : Word) (s : State) : Host.Outcome State Fault Refusal := .next (ldaOp (.absoluteX w) s)

/-- `LDA w,Y`, opcode 0xB9 (R156). -/
def execLdaAbsoluteY (w : Word) (s : State) : Host.Outcome State Fault Refusal := .next (ldaOp (.absoluteY w) s)

/-- `LDA (b1,X)`, opcode 0xA1 (R157). -/
def execLdaIndirectX (b1 : Byte) (s : State) : Host.Outcome State Fault Refusal := .next (ldaOp (.indirectX b1) s)

/-- `LDA (b1),Y`, opcode 0xB1 (R158). -/
def execLdaIndirectY (b1 : Byte) (s : State) : Host.Outcome State Fault Refusal := .next (ldaOp (.indirectY b1) s)

/-- `LDX #b1`, opcode 0xA2 (R160). -/
def execLdxImmediate (b1 : Byte) (s : State) : Host.Outcome State Fault Refusal := .next (ldxOp (.immediate b1) s)

/-- `LDX b1`, opcode 0xA6 (R161). -/
def execLdxZeroPage (b1 : Byte) (s : State) : Host.Outcome State Fault Refusal := .next (ldxOp (.zeroPage b1) s)

/-- `LDX b1,Y`, opcode 0xB6 (R162). -/
def execLdxZeroPageY (b1 : Byte) (s : State) : Host.Outcome State Fault Refusal := .next (ldxOp (.zeroPageY b1) s)

/-- `LDX w`, opcode 0xAE (R163). -/
def execLdxAbsolute (w : Word) (s : State) : Host.Outcome State Fault Refusal := .next (ldxOp (.absolute w) s)

/-- `LDX w,Y`, opcode 0xBE (R164). -/
def execLdxAbsoluteY (w : Word) (s : State) : Host.Outcome State Fault Refusal := .next (ldxOp (.absoluteY w) s)

/-- `LDY #b1`, opcode 0xA0 (R166). -/
def execLdyImmediate (b1 : Byte) (s : State) : Host.Outcome State Fault Refusal := .next (ldyOp (.immediate b1) s)

/-- `LDY b1`, opcode 0xA4 (R167). -/
def execLdyZeroPage (b1 : Byte) (s : State) : Host.Outcome State Fault Refusal := .next (ldyOp (.zeroPage b1) s)

/-- `LDY b1,X`, opcode 0xB4 (R168). -/
def execLdyZeroPageX (b1 : Byte) (s : State) : Host.Outcome State Fault Refusal := .next (ldyOp (.zeroPageX b1) s)

/-- `LDY w`, opcode 0xAC (R169). -/
def execLdyAbsolute (w : Word) (s : State) : Host.Outcome State Fault Refusal := .next (ldyOp (.absolute w) s)

/-- `LDY w,X`, opcode 0xBC (R170). -/
def execLdyAbsoluteX (w : Word) (s : State) : Host.Outcome State Fault Refusal := .next (ldyOp (.absoluteX w) s)

/-- `STA b1`, opcode 0x85 (R172). -/
def execStaZeroPage (b1 : Byte) (s : State) : Host.Outcome State Fault Refusal := .next (staOp (.zeroPage b1) s)

/-- `STA b1,X`, opcode 0x95 (R173). -/
def execStaZeroPageX (b1 : Byte) (s : State) : Host.Outcome State Fault Refusal := .next (staOp (.zeroPageX b1) s)

/-- `STA w`, opcode 0x8D (R174). -/
def execStaAbsolute (w : Word) (s : State) : Host.Outcome State Fault Refusal := .next (staOp (.absolute w) s)

/-- `STA w,X`, opcode 0x9D (R175). -/
def execStaAbsoluteX (w : Word) (s : State) : Host.Outcome State Fault Refusal := .next (staOp (.absoluteX w) s)

/-- `STA w,Y`, opcode 0x99 (R176). -/
def execStaAbsoluteY (w : Word) (s : State) : Host.Outcome State Fault Refusal := .next (staOp (.absoluteY w) s)

/-- `STA (b1,X)`, opcode 0x81 (R177). -/
def execStaIndirectX (b1 : Byte) (s : State) : Host.Outcome State Fault Refusal := .next (staOp (.indirectX b1) s)

/-- `STA (b1),Y`, opcode 0x91 (R178). -/
def execStaIndirectY (b1 : Byte) (s : State) : Host.Outcome State Fault Refusal := .next (staOp (.indirectY b1) s)

end Sys2Proof.Machine
end

