-- ==== Sys2Proof/Machine/Logic.lean ====
section
/-! DEFINITION. The logical and shift instructions AND, ASL, BIT (`42_logic_shift.md`). -/
namespace Sys2Proof.Machine

/-- AND: `v <- Operand(mode); A <- A & v; SetZN(A)` (R110). -/
def andOp (o : Operand) (s : State) : State :=
  s.withOperand o fun v => { s with a := s.a &&& v }.setZN (s.a &&& v)

/-- The result of ASL: `(v << 1) & 0xFF` (R119). -/
def shiftLeft (v : Byte) : Byte := v <<< 1

/-- ASL: on `A` in Accumulator mode, on the byte at the effective address otherwise, with Carry from the operand's bit 7
and `SetZN` of the result (R119). -/
def aslOp (o : Operand) (s : State) : State :=
  match o with
  | .accumulator => { s with a := shiftLeft s.a }.setShiftFlags s.a (shiftLeft s.a)
  | _ => s.withAddress o fun ea =>
      (s.setShiftFlags (s.readByte ea) (shiftLeft (s.readByte ea))).writeByte ea (shiftLeft (s.readByte ea))

/-- BIT: the flags of `A & v`, and of `v`, for the byte `v` at the effective address; `A` unchanged (R125). -/
def bitOp (o : Operand) (s : State) : State := s.withAddress o fun ea => s.setBitFlags (s.readByte ea)

/-- `AND #b1`, opcode 0x29 (R111). -/
def execAndImmediate (b1 : Byte) (s : State) : Host.Outcome State Fault Refusal := .next (andOp (.immediate b1) s)

/-- `AND b1`, opcode 0x25 (R112). -/
def execAndZeroPage (b1 : Byte) (s : State) : Host.Outcome State Fault Refusal := .next (andOp (.zeroPage b1) s)

/-- `AND b1,X`, opcode 0x35 (R113). -/
def execAndZeroPageX (b1 : Byte) (s : State) : Host.Outcome State Fault Refusal := .next (andOp (.zeroPageX b1) s)

/-- `AND w`, opcode 0x2D (R114). -/
def execAndAbsolute (w : Word) (s : State) : Host.Outcome State Fault Refusal := .next (andOp (.absolute w) s)

/-- `AND w,X`, opcode 0x3D (R115). -/
def execAndAbsoluteX (w : Word) (s : State) : Host.Outcome State Fault Refusal := .next (andOp (.absoluteX w) s)

/-- `AND w,Y`, opcode 0x39 (R116). -/
def execAndAbsoluteY (w : Word) (s : State) : Host.Outcome State Fault Refusal := .next (andOp (.absoluteY w) s)

/-- `AND (b1,X)`, opcode 0x21 (R117). -/
def execAndIndirectX (b1 : Byte) (s : State) : Host.Outcome State Fault Refusal := .next (andOp (.indirectX b1) s)

/-- `AND (b1),Y`, opcode 0x31 (R118). -/
def execAndIndirectY (b1 : Byte) (s : State) : Host.Outcome State Fault Refusal := .next (andOp (.indirectY b1) s)

/-- `ASL A`, opcode 0x0A (R120). -/
def execAslAccumulator (s : State) : Host.Outcome State Fault Refusal := .next (aslOp .accumulator s)

/-- `ASL b1`, opcode 0x06 (R121). -/
def execAslZeroPage (b1 : Byte) (s : State) : Host.Outcome State Fault Refusal := .next (aslOp (.zeroPage b1) s)

/-- `ASL b1,X`, opcode 0x16 (R122). -/
def execAslZeroPageX (b1 : Byte) (s : State) : Host.Outcome State Fault Refusal := .next (aslOp (.zeroPageX b1) s)

/-- `ASL w`, opcode 0x0E (R123). -/
def execAslAbsolute (w : Word) (s : State) : Host.Outcome State Fault Refusal := .next (aslOp (.absolute w) s)

/-- `ASL w,X`, opcode 0x1E (R124). -/
def execAslAbsoluteX (w : Word) (s : State) : Host.Outcome State Fault Refusal := .next (aslOp (.absoluteX w) s)

/-- `BIT b1`, opcode 0x24 (R126). -/
def execBitZeroPage (b1 : Byte) (s : State) : Host.Outcome State Fault Refusal := .next (bitOp (.zeroPage b1) s)

/-- `BIT w`, opcode 0x2C (R127). -/
def execBitAbsolute (w : Word) (s : State) : Host.Outcome State Fault Refusal := .next (bitOp (.absolute w) s)

end Sys2Proof.Machine
end

