-- ==== Sys2Proof/Machine/Register.lean ====
section
/-! DEFINITION. The register transfer TAX and the increment INX (`45_register_ops.md`). -/
namespace Sys2Proof.Machine

/-- TAX: `X <- A; SetZN(X)` (R190). -/
def taxOp (s : State) : State := { s with x := s.a }.setZN s.a

/-- INX: `X <- X +8 1; SetZN(X)` (R191). -/
def inxOp (s : State) : State := { s with x := s.x + 1 }.setZN (s.x + 1)

/-- `TAX`, opcode 0xAA (R190). -/
def execTax (s : State) : Host.Outcome State Fault Refusal := .next (taxOp s)

/-- `INX`, opcode 0xE8 (R191). -/
def execInx (s : State) : Host.Outcome State Fault Refusal := .next (inxOp s)

end Sys2Proof.Machine
end

