-- ==== Sys2Proof/Machine/System.lean ====
section
/-! DEFINITION. BRK, the normal halt (`46_brk_and_unrecognized.md`). -/
namespace Sys2Proof.Machine

/-- `BRK`, opcode 0x00: a bare halt, nothing pushed, no flag set, no vector read (R195, R196, D16). -/
def execBrk (s : State) : Host.Outcome State Fault Refusal := .next s.haltBrk

end Sys2Proof.Machine
end

