-- ==== Sys2Proof/Machine/Dispatch.lean ====
section
/-! DEFINITION. The execute part of the step (`41_step_cycle.md` R94): one arm per instruction, one meaning per arm. -/
namespace Sys2Proof.Machine

def exec (i : Instr) (s : State) : Host.Outcome State Fault Refusal :=
  match i with
  | .andImmediate b1 => Sys2Proof.Machine.execAndImmediate b1 s
  | .andZeroPage b1 => Sys2Proof.Machine.execAndZeroPage b1 s
  | .andZeroPageX b1 => Sys2Proof.Machine.execAndZeroPageX b1 s
  | .andAbsolute w => Sys2Proof.Machine.execAndAbsolute w s
  | .andAbsoluteX w => Sys2Proof.Machine.execAndAbsoluteX w s
  | .andAbsoluteY w => Sys2Proof.Machine.execAndAbsoluteY w s
  | .andIndirectX b1 => Sys2Proof.Machine.execAndIndirectX b1 s
  | .andIndirectY b1 => Sys2Proof.Machine.execAndIndirectY b1 s
  | .aslAccumulator => Sys2Proof.Machine.execAslAccumulator s
  | .aslZeroPage b1 => Sys2Proof.Machine.execAslZeroPage b1 s
  | .aslZeroPageX b1 => Sys2Proof.Machine.execAslZeroPageX b1 s
  | .aslAbsolute w => Sys2Proof.Machine.execAslAbsolute w s
  | .aslAbsoluteX w => Sys2Proof.Machine.execAslAbsoluteX w s
  | .bcc b1 => Sys2Proof.Machine.execBcc b1 s
  | .bcs b1 => Sys2Proof.Machine.execBcs b1 s
  | .beq b1 => Sys2Proof.Machine.execBeq b1 s
  | .bitZeroPage b1 => Sys2Proof.Machine.execBitZeroPage b1 s
  | .bitAbsolute w => Sys2Proof.Machine.execBitAbsolute w s
  | .ldaImmediate b1 => Sys2Proof.Machine.execLdaImmediate b1 s
  | .ldaZeroPage b1 => Sys2Proof.Machine.execLdaZeroPage b1 s
  | .ldaZeroPageX b1 => Sys2Proof.Machine.execLdaZeroPageX b1 s
  | .ldaAbsolute w => Sys2Proof.Machine.execLdaAbsolute w s
  | .ldaAbsoluteX w => Sys2Proof.Machine.execLdaAbsoluteX w s
  | .ldaAbsoluteY w => Sys2Proof.Machine.execLdaAbsoluteY w s
  | .ldaIndirectX b1 => Sys2Proof.Machine.execLdaIndirectX b1 s
  | .ldaIndirectY b1 => Sys2Proof.Machine.execLdaIndirectY b1 s
  | .ldxImmediate b1 => Sys2Proof.Machine.execLdxImmediate b1 s
  | .ldxZeroPage b1 => Sys2Proof.Machine.execLdxZeroPage b1 s
  | .ldxZeroPageY b1 => Sys2Proof.Machine.execLdxZeroPageY b1 s
  | .ldxAbsolute w => Sys2Proof.Machine.execLdxAbsolute w s
  | .ldxAbsoluteY w => Sys2Proof.Machine.execLdxAbsoluteY w s
  | .ldyImmediate b1 => Sys2Proof.Machine.execLdyImmediate b1 s
  | .ldyZeroPage b1 => Sys2Proof.Machine.execLdyZeroPage b1 s
  | .ldyZeroPageX b1 => Sys2Proof.Machine.execLdyZeroPageX b1 s
  | .ldyAbsolute w => Sys2Proof.Machine.execLdyAbsolute w s
  | .ldyAbsoluteX w => Sys2Proof.Machine.execLdyAbsoluteX w s
  | .tax => Sys2Proof.Machine.execTax s
  | .staZeroPage b1 => Sys2Proof.Machine.execStaZeroPage b1 s
  | .staZeroPageX b1 => Sys2Proof.Machine.execStaZeroPageX b1 s
  | .staAbsolute w => Sys2Proof.Machine.execStaAbsolute w s
  | .staAbsoluteX w => Sys2Proof.Machine.execStaAbsoluteX w s
  | .staAbsoluteY w => Sys2Proof.Machine.execStaAbsoluteY w s
  | .staIndirectX b1 => Sys2Proof.Machine.execStaIndirectX b1 s
  | .staIndirectY b1 => Sys2Proof.Machine.execStaIndirectY b1 s
  | .inx => Sys2Proof.Machine.execInx s
  | .brk => Sys2Proof.Machine.execBrk s

end Sys2Proof.Machine
end

