-- ==== Sys2Proof/WellFormed.lean ====
section
/-! DEFINITION. Well-formedness. An opcode table is accepted only if it passes the four checks of `30_encoding.md` R58; a
core is not constructed over any other (D25). An instruction is well-formed under a table when the table has a row for
its mnemonic and addressing mode; every operand byte is legal (R60), so nothing else can be wrong with an instruction. -/
namespace Sys2Proof

/-- R58 (c): the (mnemonic, mode) pairs the instruction rules define (the grid of R86). -/
def validPair : Mnemonic → Mode → Bool
  | .and, .immediate | .and, .zeroPage | .and, .zeroPageX | .and, .absolute
  | .and, .absoluteX | .and, .absoluteY | .and, .indirectX | .and, .indirectY => true
  | .asl, .accumulator | .asl, .zeroPage | .asl, .zeroPageX | .asl, .absolute | .asl, .absoluteX => true
  | .bcc, .relative => true
  | .bcs, .relative => true
  | .beq, .relative => true
  | .bit, .zeroPage | .bit, .absolute => true
  | .lda, .immediate | .lda, .zeroPage | .lda, .zeroPageX | .lda, .absolute
  | .lda, .absoluteX | .lda, .absoluteY | .lda, .indirectX | .lda, .indirectY => true
  | .ldx, .immediate | .ldx, .zeroPage | .ldx, .zeroPageY | .ldx, .absolute | .ldx, .absoluteY => true
  | .ldy, .immediate | .ldy, .zeroPage | .ldy, .zeroPageX | .ldy, .absolute | .ldy, .absoluteX => true
  | .tax, .implicit => true
  | .sta, .zeroPage | .sta, .zeroPageX | .sta, .absolute | .sta, .absoluteX
  | .sta, .absoluteY | .sta, .indirectX | .sta, .indirectY => true
  | .inx, .implicit => true
  | .brk, .implicit => true
  | _, _ => false

/-- R58 (a): no opcode byte appears twice. -/
def OpTable.opcodesUnique (t : OpTable) : Bool := decide (t.map Descriptor.opcode).Nodup

/-- R58 (b): the row's length is the one its mode gives. -/
def Descriptor.lengthOk (d : Descriptor) : Bool := d.length == d.mode.length

/-- R58 (c): the row's pair is one the instruction rules define. -/
def Descriptor.pairOk (d : Descriptor) : Bool := validPair d.mnemonic d.mode

/-- R58 (d): a row for BRK has opcode 0x00. -/
def Descriptor.brkOk (d : Descriptor) : Bool := d.mnemonic != .brk || d.opcode == 0x00

/-- R58: the table passes all four checks. -/
def OpTable.wf (t : OpTable) : Bool :=
  t.opcodesUnique && t.all fun d => d.lengthOk && d.pairOk && d.brkOk

/-- The table has a row for the instruction's mnemonic and mode, so the instruction can be written in this machine's
code (R56, R57). -/
def Instr.wellFormed (t : OpTable) (i : Instr) : Bool :=
  t.any fun d => d.mnemonic == i.mnemonic && d.mode == i.operand.mode

end Sys2Proof
end

