-- ==== Sys2Proof/Decode.lean ====
section
/-! DEFINITION. The opcode tables, the decoder and the encoder (`30_encoding.md`). The decoder is total on any bytes and
names why it rejects; it takes the table as an argument, and `decode` is the one of the default table. -/
namespace Sys2Proof

/-- The default `OPTABLE`: the 46 rows of R56 (D1; log 1). -/
def optable : OpTable :=
  [⟨0x29, .and, .immediate, 2⟩, ⟨0x25, .and, .zeroPage, 2⟩, ⟨0x35, .and, .zeroPageX, 2⟩,
   ⟨0x2D, .and, .absolute, 3⟩, ⟨0x3D, .and, .absoluteX, 3⟩, ⟨0x39, .and, .absoluteY, 3⟩,
   ⟨0x21, .and, .indirectX, 2⟩, ⟨0x31, .and, .indirectY, 2⟩] ++
  [⟨0x0A, .asl, .accumulator, 1⟩, ⟨0x06, .asl, .zeroPage, 2⟩, ⟨0x16, .asl, .zeroPageX, 2⟩,
   ⟨0x0E, .asl, .absolute, 3⟩, ⟨0x1E, .asl, .absoluteX, 3⟩] ++
  [⟨0x90, .bcc, .relative, 2⟩] ++
  [⟨0xB0, .bcs, .relative, 2⟩] ++
  [⟨0xF0, .beq, .relative, 2⟩] ++
  [⟨0x24, .bit, .zeroPage, 2⟩, ⟨0x2C, .bit, .absolute, 3⟩] ++
  [⟨0xA9, .lda, .immediate, 2⟩, ⟨0xA5, .lda, .zeroPage, 2⟩, ⟨0xB5, .lda, .zeroPageX, 2⟩,
   ⟨0xAD, .lda, .absolute, 3⟩, ⟨0xBD, .lda, .absoluteX, 3⟩, ⟨0xB9, .lda, .absoluteY, 3⟩,
   ⟨0xA1, .lda, .indirectX, 2⟩, ⟨0xB1, .lda, .indirectY, 2⟩] ++
  [⟨0xA2, .ldx, .immediate, 2⟩, ⟨0xA6, .ldx, .zeroPage, 2⟩, ⟨0xB6, .ldx, .zeroPageY, 2⟩,
   ⟨0xAE, .ldx, .absolute, 3⟩, ⟨0xBE, .ldx, .absoluteY, 3⟩] ++
  [⟨0xA0, .ldy, .immediate, 2⟩, ⟨0xA4, .ldy, .zeroPage, 2⟩, ⟨0xB4, .ldy, .zeroPageX, 2⟩,
   ⟨0xAC, .ldy, .absolute, 3⟩, ⟨0xBC, .ldy, .absoluteX, 3⟩] ++
  [⟨0xAA, .tax, .implicit, 1⟩] ++
  [⟨0x85, .sta, .zeroPage, 2⟩, ⟨0x95, .sta, .zeroPageX, 2⟩, ⟨0x8D, .sta, .absolute, 3⟩,
   ⟨0x9D, .sta, .absoluteX, 3⟩, ⟨0x99, .sta, .absoluteY, 3⟩, ⟨0x81, .sta, .indirectX, 2⟩,
   ⟨0x91, .sta, .indirectY, 2⟩] ++
  [⟨0xE8, .inx, .implicit, 1⟩] ++
  [⟨0x00, .brk, .implicit, 1⟩]

/-- `OPTABLE_ATTESTED`: the six rows whose byte value the source shows (R57). -/
def optableAttested : OpTable :=
  [⟨0x00, .brk, .implicit, 1⟩, ⟨0x0A, .asl, .accumulator, 1⟩, ⟨0x90, .bcc, .relative, 2⟩,
   ⟨0xA9, .lda, .immediate, 2⟩, ⟨0xAA, .tax, .implicit, 1⟩, ⟨0xE8, .inx, .implicit, 1⟩]

/-- The descriptor of an opcode byte (R53, R93): the whole byte selects it (R50). -/
def OpTable.lookup (t : OpTable) (op : Byte) : Option Descriptor := t.find? fun d => d.opcode == op

/-- Why bytes do not decode. -/
inductive DecodeError where
  /-- no byte at all -/
  | noBytes
  /-- the first byte is no opcode of the table (R59) -/
  | unrecognizedOpcode (op : Byte)
  /-- the operand bytes of the opcode are missing -/
  | truncated (op : Byte)
  /-- the table pairs a mnemonic with a mode it does not have; never with a table that passes R58 -/
  | noSuchForm (m : Mnemonic) (mode : Mode)
  deriving DecidableEq, Repr

/-- The operand of a mode, taken from the bytes after the opcode, and the bytes left (R51, R54). -/
def takeOperand : Mode → List Byte → Option (Operand × List Byte)
  | .implicit, bs => some (.implicit, bs)
  | .accumulator, bs => some (.accumulator, bs)
  | .immediate, b1 :: bs => some (.immediate b1, bs)
  | .zeroPage, b1 :: bs => some (.zeroPage b1, bs)
  | .zeroPageX, b1 :: bs => some (.zeroPageX b1, bs)
  | .zeroPageY, b1 :: bs => some (.zeroPageY b1, bs)
  | .indirectX, b1 :: bs => some (.indirectX b1, bs)
  | .indirectY, b1 :: bs => some (.indirectY b1, bs)
  | .relative, b1 :: bs => some (.relative b1, bs)
  | .absolute, b1 :: b2 :: bs => some (.absolute (wordOf b2 b1), bs)
  | .absoluteX, b1 :: b2 :: bs => some (.absoluteX (wordOf b2 b1), bs)
  | .absoluteY, b1 :: b2 :: bs => some (.absoluteY (wordOf b2 b1), bs)
  | _, _ => none

/-- The instruction of a mnemonic and an operand, for the pairs of R86. -/
def assemble : Mnemonic → Operand → Option Instr
  | .and, .immediate b1 => some (.andImmediate b1)
  | .and, .zeroPage b1 => some (.andZeroPage b1)
  | .and, .zeroPageX b1 => some (.andZeroPageX b1)
  | .and, .absolute w => some (.andAbsolute w)
  | .and, .absoluteX w => some (.andAbsoluteX w)
  | .and, .absoluteY w => some (.andAbsoluteY w)
  | .and, .indirectX b1 => some (.andIndirectX b1)
  | .and, .indirectY b1 => some (.andIndirectY b1)
  | .asl, .accumulator => some .aslAccumulator
  | .asl, .zeroPage b1 => some (.aslZeroPage b1)
  | .asl, .zeroPageX b1 => some (.aslZeroPageX b1)
  | .asl, .absolute w => some (.aslAbsolute w)
  | .asl, .absoluteX w => some (.aslAbsoluteX w)
  | .bcc, .relative b1 => some (.bcc b1)
  | .bcs, .relative b1 => some (.bcs b1)
  | .beq, .relative b1 => some (.beq b1)
  | .bit, .zeroPage b1 => some (.bitZeroPage b1)
  | .bit, .absolute w => some (.bitAbsolute w)
  | .lda, .immediate b1 => some (.ldaImmediate b1)
  | .lda, .zeroPage b1 => some (.ldaZeroPage b1)
  | .lda, .zeroPageX b1 => some (.ldaZeroPageX b1)
  | .lda, .absolute w => some (.ldaAbsolute w)
  | .lda, .absoluteX w => some (.ldaAbsoluteX w)
  | .lda, .absoluteY w => some (.ldaAbsoluteY w)
  | .lda, .indirectX b1 => some (.ldaIndirectX b1)
  | .lda, .indirectY b1 => some (.ldaIndirectY b1)
  | .ldx, .immediate b1 => some (.ldxImmediate b1)
  | .ldx, .zeroPage b1 => some (.ldxZeroPage b1)
  | .ldx, .zeroPageY b1 => some (.ldxZeroPageY b1)
  | .ldx, .absolute w => some (.ldxAbsolute w)
  | .ldx, .absoluteY w => some (.ldxAbsoluteY w)
  | .ldy, .immediate b1 => some (.ldyImmediate b1)
  | .ldy, .zeroPage b1 => some (.ldyZeroPage b1)
  | .ldy, .zeroPageX b1 => some (.ldyZeroPageX b1)
  | .ldy, .absolute w => some (.ldyAbsolute w)
  | .ldy, .absoluteX w => some (.ldyAbsoluteX w)
  | .tax, .implicit => some .tax
  | .sta, .zeroPage b1 => some (.staZeroPage b1)
  | .sta, .zeroPageX b1 => some (.staZeroPageX b1)
  | .sta, .absolute w => some (.staAbsolute w)
  | .sta, .absoluteX w => some (.staAbsoluteX w)
  | .sta, .absoluteY w => some (.staAbsoluteY w)
  | .sta, .indirectX b1 => some (.staIndirectX b1)
  | .sta, .indirectY b1 => some (.staIndirectY b1)
  | .inx, .implicit => some .inx
  | .brk, .implicit => some .brk
  | _, _ => none

/-- The instruction at the head of a list of bytes under a table, and the bytes after it (R53). -/
def decodeWith (t : OpTable) : List Byte → Except DecodeError (Instr × List Byte)
  | [] => .error .noBytes
  | op :: bs =>
    match t.lookup op with
    | none => .error (.unrecognizedOpcode op)
    | some d =>
      match takeOperand d.mode bs with
      | none => .error (.truncated op)
      | some (o, rest) =>
        match assemble d.mnemonic o with
        | none => .error (.noSuchForm d.mnemonic d.mode)
        | some i => .ok (i, rest)

/-- The decoder of the default table. -/
def decode (bs : List Byte) : Except DecodeError (Instr × List Byte) := decodeWith optable bs

/-- The first `n` bytes of a number whose least significant byte is the first. -/
def bytesOfNat : Nat → Nat → List Byte
  | 0, _ => []
  | n + 1, w => BitVec.ofNat 8 w :: bytesOfNat n (w / 256)

/-- The length of the longest instruction (R50). -/
def maxLength : Nat := 3

/-- The bytes, in memory order, of an instruction whose bits are `w`, every bit from `nbits` up being 0. -/
def tableBytes (nbits w : Nat) : List Byte := bytesOfNat maxLength (w % 2 ^ nbits)

/-- What the decoder reads from an instruction word numbered as `spec/opcode_table.json` numbers it. -/
def decodeTableWord (nbits w : Nat) : Option Instr :=
  match decode (tableBytes nbits w) with
  | .ok (i, _) => some i
  | .error _ => none

/-- The opcode byte of an instruction in the default table, written out from R111 to R195. -/
def Instr.opcode : Instr → Byte
  | .andImmediate _ => 0x29
  | .andZeroPage _ => 0x25
  | .andZeroPageX _ => 0x35
  | .andAbsolute _ => 0x2D
  | .andAbsoluteX _ => 0x3D
  | .andAbsoluteY _ => 0x39
  | .andIndirectX _ => 0x21
  | .andIndirectY _ => 0x31
  | .aslAccumulator => 0x0A
  | .aslZeroPage _ => 0x06
  | .aslZeroPageX _ => 0x16
  | .aslAbsolute _ => 0x0E
  | .aslAbsoluteX _ => 0x1E
  | .bcc _ => 0x90
  | .bcs _ => 0xB0
  | .beq _ => 0xF0
  | .bitZeroPage _ => 0x24
  | .bitAbsolute _ => 0x2C
  | .ldaImmediate _ => 0xA9
  | .ldaZeroPage _ => 0xA5
  | .ldaZeroPageX _ => 0xB5
  | .ldaAbsolute _ => 0xAD
  | .ldaAbsoluteX _ => 0xBD
  | .ldaAbsoluteY _ => 0xB9
  | .ldaIndirectX _ => 0xA1
  | .ldaIndirectY _ => 0xB1
  | .ldxImmediate _ => 0xA2
  | .ldxZeroPage _ => 0xA6
  | .ldxZeroPageY _ => 0xB6
  | .ldxAbsolute _ => 0xAE
  | .ldxAbsoluteY _ => 0xBE
  | .ldyImmediate _ => 0xA0
  | .ldyZeroPage _ => 0xA4
  | .ldyZeroPageX _ => 0xB4
  | .ldyAbsolute _ => 0xAC
  | .ldyAbsoluteX _ => 0xBC
  | .tax => 0xAA
  | .staZeroPage _ => 0x85
  | .staZeroPageX _ => 0x95
  | .staAbsolute _ => 0x8D
  | .staAbsoluteX _ => 0x9D
  | .staAbsoluteY _ => 0x99
  | .staIndirectX _ => 0x81
  | .staIndirectY _ => 0x91
  | .inx => 0xE8
  | .brk => 0x00

/-- The bytes of an instruction in memory order (R50, R51). -/
def encode (i : Instr) : List Byte := i.opcode :: i.operand.bytes

/-- The bytes of an instruction under any table: those of the first row with its mnemonic and mode; none where the
table has no such row. -/
def encodeWith (t : OpTable) (i : Instr) : Option (List Byte) :=
  match t.find? fun d => d.mnemonic == i.mnemonic && d.mode == i.operand.mode with
  | none => none
  | some d => some (d.opcode :: i.operand.bytes)

end Sys2Proof
end

