-- ==== Sys2Proof/Machine/Table.lean ====
section
/-! DEFINITION. The core over any opcode table and either setting of `REDIRECT_DETECT` (`00_scope.md` R7): the step as
R98 writes it, the instruction rule selected by the mnemonic and run with the row's addressing mode, operands read at
`PC`. It takes tables that R58 refuses too, so it keeps the fatal condition `UnsupportedAddressingMode` (R202; log
18). -/
namespace Sys2Proof.Machine

/-- The setting of `REDIRECT_DETECT` the default step takes (R96; log 2). -/
def redirectDetect : RedirectDetect := .pcCompare

/-- The parameters the default step takes (R7; log 1, log 2). -/
def defaultConfig : Config := { optable := optable, redirect := redirectDetect }

/-- The offset byte a branch reads: its own operand byte, `MemRead(PC, 1)` in R141. -/
def State.offsetByte (s : State) : Operand → Byte
  | .relative b1 => b1
  | _ => s.readByte s.pc

/-- `Execute(mnemonic, mode)` (R94): one rule per mnemonic serves all its opcodes. -/
def execute (m : Mnemonic) (o : Operand) (s : State) : State :=
  match m with
  | .and => andOp o s
  | .asl => aslOp o s
  | .bcc => branchOp (!s.testFlag .carry) (s.offsetByte o) s
  | .bcs => branchOp (s.testFlag .carry) (s.offsetByte o) s
  | .beq => branchOp (s.testFlag .zero) (s.offsetByte o) s
  | .bit => bitOp o s
  | .lda => ldaOp o s
  | .ldx => ldxOp o s
  | .ldy => ldyOp o s
  | .tax => taxOp s
  | .sta => staOp o s
  | .inx => inxOp s
  | .brk => s.haltBrk

/-- The execute part of a step under a table row: begun after the opcode fetch, its operands read at `PC`. -/
def executeRow (d : Descriptor) (s : State) : State :=
  execute d.mnemonic (s.beginExecution.operandAt d.mode) s.beginExecution

/-- `Step()` (R98), for any parameters. -/
def stepTable (cfg : Config) (s : State) : State :=
  if s.rs = .running then
    match cfg.optable.lookup (s.readByte s.pc) with
    | none => s.raise (.unrecognizedOpcode (s.readByte s.pc) s.pc) s.pc
    | some d => (executeRow d s).advance cfg.redirect d.length
  else s

end Sys2Proof.Machine
end

