-- ==== Sys2Proof/Machine/Cycle.lean ====
section
/-! DEFINITION. The fetch-decode-execute step of the default machine (`41_step_cycle.md` R90 to R98), through the decoder and
`exec`. -/
namespace Sys2Proof.Machine

/-- The advance after an instruction (R95); an execution that stopped is passed on. -/
def finish (length : Nat) : Host.Outcome State Fault Refusal → Host.Outcome State Fault Refusal
  | .next s => .next (s.advance redirectDetect length)
  | .fault r => .fault r
  | .refused r => .refused r

/-- One step: nothing outside `Running` (R90, D7); else fetch and decode at `PC`, execute and advance, or, for a byte that
is no opcode of the table, the fatal condition `UnrecognizedOpcode` (R93, R201). -/
def cycle (s : State) : Host.Outcome State Fault Refusal :=
  if s.rs = .running then
    match decode s.fetchBytes with
    | .ok (i, _) => finish i.length (exec i s.beginExecution)
    | .error _ => .next (s.raise (.unrecognizedOpcode (s.readByte s.pc) s.pc) s.pc)
  else .next s

end Sys2Proof.Machine
end

