-- ==== Sys2Proof/Machine/Step.lean ====
section
/-! DEFINITION. One step of the machine, and an instruction placed where the next step fetches it. -/
namespace Sys2Proof.Machine

/-- One step (R98, with the default parameters of R7). -/
def step (s : State) : Host.Outcome State Fault Refusal := cycle s

/-- The state with an instruction word, numbered as `spec/opcode_table.json` numbers it, stored at `PC`, and running, so
that the next step fetches and runs it (log 6, log 21). -/
def State.withFetchWord (s : State) (nbits w : Nat) : State := s.placeAtPc (tableBytes nbits w)

end Sys2Proof.Machine
end

