-- ==== Sys2Proof/Machine/HostOps.lean ====
section
/-! DEFINITION. The host operations `construct`, `load`, `reset`, `step` and `run` (`70_reset_and_hazards.md` R220 to R230).
They happen only between steps (R40, R47). -/
namespace Sys2Proof.Machine

/-- The address of the reset vector (R6). -/
def resetVector : Word := 0xFFFC

/-- The address `load` copies to, and the word it writes into the reset vector (R6, R224). -/
def loadOrigin : Word := 0x8000

/-- The most bytes `load` takes (R225, D9). -/
def loadLimit : Nat := 0x8000

/-- `construct()` over a table: no core exists for a table that fails the check (R58, R220, D25). -/
def constructWith (t : OpTable) : Option State := if t.wf then some State.construct else none

/-- `reset()`: registers and status zeroed, `PC` from the reset vector, running, no halt cause, memory unchanged; the same
in every run state (R221, R222, R223). -/
def hostReset (s : State) : State :=
  { s with a := 0, x := 0, y := 0, p := 0, pc := s.readWord resetVector, rs := .running, hc := .none }

/-- `load(bytes)`: the bytes copied from the origin on, then the origin written into the reset vector; nothing else
changes (R224). A sequence too long is refused with no change: there is no loaded state (R225). -/
def load (bytes : List Byte) (s : State) : Option State :=
  if bytes.length ≤ loadLimit then some ((s.writeBytes loadOrigin bytes).writeWord resetVector loadOrigin) else none

/-- `step()` as the host sees it: the state after, and the `RS` and `HC` it reports (R226). -/
def hostStep (s : State) : Host.Outcome (State × RunState × HaltCause) Fault Refusal :=
  match step s with
  | .next t => .next (t, t.rs, t.hc)
  | .fault r => .fault r
  | .refused r => .refused r

/-- How a run under fuel ends: halted, with the cause reported; or out of fuel, which is no end of a run (R227, R238,
D22). -/
inductive RunResult where
  | halted (cause : HaltCause) (s : State)
  | notRunning (s : State)
  | outOfFuel (s : State)
  | stopped (s : State)
  deriving DecidableEq, Repr

/-- `run()`: steps while `RS == Running` (R102, R227), at most `fuel` of them. Called in `Reset` it returns at once
without a step. -/
def run (fuel : Nat) (s : State) : RunResult :=
  match s.rs, fuel with
  | .halted, _ => .halted s.hc s
  | .reset, _ => .notRunning s
  | .running, 0 => .outOfFuel s
  | .running, n + 1 =>
    match step s with
    | .next t => run n t
    | .fault _ | .refused _ => .stopped s

/-- The boot sequence `construct(); load(bytes); reset()` (R229). -/
def boot (bytes : List Byte) : Option State := (load bytes State.construct).map hostReset

end Sys2Proof.Machine
end

