-- ==== Sys2Proof/Safety.lean ====
section
/-! DEFINITION. What counts as the end of a run and as a safe run (`46_brk_and_unrecognized.md` R199, `60_exceptions.md`
R200, `70_reset_and_hazards.md` R231), the invariant of the machine, and the words the claims are stated in. -/
namespace Sys2Proof.Machine

/-! ### Ends of a run -/

/-- The two fatal conditions (R200). -/
def HaltCause.isFatal : HaltCause → Bool
  | .none | .brk => false
  | .unrecognizedOpcode _ _ | .unsupportedAddressingMode _ => true

/-- The code of a halt cause, a label only (R200, D12). -/
def HaltCause.code : HaltCause → Option Nat
  | .none => Option.none
  | .brk => some 0
  | .unrecognizedOpcode _ _ => some 1
  | .unsupportedAddressingMode _ => some 2

/-- A run has ended normally (R231). -/
def State.endedNormally (s : State) : Bool := s.rs == .halted && s.hc == .brk

/-- A run has faulted; a faulted state is never a final state (R199, R231). -/
def State.faulted (s : State) : Bool := s.rs == .halted && s.hc.isFatal

/-- No state of the first `k` steps has faulted: the premise "no fault" of a claim about a program (R199). -/
def SafeRun (k : Nat) (s : State) : Prop :=
  ∀ j t, j ≤ k → Sys2Proof.core.run j s = .next t → t.faulted = false

/-! ### The invariant -/

/-- What holds between host operations of the default machine: memory in canonical form (R20), bits 2 to 5 of `P` 0 (R16),
a halt cause exactly when halted (R22, R230), only causes the default table can raise, with `PC` at the byte an
unrecognised opcode was fetched from (R99, R202), and no transient (R23). -/
structure State.Inv (s : State) : Prop where
  memory : Memory.wf s.mem = true
  status : s.p &&& 0x3C = 0
  cause : s.hc = .none ↔ s.rs ≠ .halted
  fatal : ∀ op a, s.hc = .unrecognizedOpcode op a → s.pc = a ∧ optable.lookup op = none
  supported : ∀ m, s.hc ≠ .unsupportedAddressingMode m
  noSnapshot : s.pbd = none
  noRedirect : s.redirected = false

/-- The states the host can bring the default machine to, by any order of its operations (R220 to R227). -/
inductive Reachable : State → Prop where
  | construct : Reachable State.construct
  | load {s t : State} (bytes : List Byte) : Reachable s → load bytes s = some t → Reachable t
  | reset {s : State} : Reachable s → Reachable (hostReset s)
  | step {s t : State} : Reachable s → step s = .next t → Reachable t

/-! ### Words of the claims -/

/-- Zero is set exactly if `v` is 0, Negative is bit 7 of `v`, and every other bit of `P` is as before (R17). -/
def ZeroNegativeFrom (v : Byte) (s t : State) : Prop :=
  t.p.getLsbD 1 = (v == 0) ∧ t.p.getLsbD 7 = v.getLsbD 7 ∧
  ∀ n, n ≠ 1 → n ≠ 7 → t.p.getLsbD n = s.p.getLsbD n

/-- Every byte of memory reads as before. -/
def MemoryKept (s t : State) : Prop := ∀ b : Word, t.readByte b = s.readByte b

/-- Every byte of memory outside one address reads as before. -/
def MemoryKeptBut (ea : Word) (s t : State) : Prop := ∀ b : Word, b ≠ ea → t.readByte b = s.readByte b

/-- The program counter, the run state, the halt cause and the transients are as before: what an instruction that neither
branches nor halts leaves of them (R94). -/
def ControlKept (s t : State) : Prop :=
  t.pc = s.pc ∧ t.rs = s.rs ∧ t.hc = s.hc ∧ t.pbd = s.pbd ∧ t.redirected = s.redirected

/-- The execution completes with `A` holding `v`, the flags Zero and Negative of `v`, and nothing else changed. -/
def SetsA (v : Byte) (s : State) (o : Host.Outcome State Fault Refusal) : Prop :=
  ∃ t, o = .next t ∧ t.a = v ∧ ZeroNegativeFrom v s t ∧ t.x = s.x ∧ t.y = s.y ∧ MemoryKept s t ∧ ControlKept s t

/-- As `SetsA`, for `X`. -/
def SetsX (v : Byte) (s : State) (o : Host.Outcome State Fault Refusal) : Prop :=
  ∃ t, o = .next t ∧ t.x = v ∧ ZeroNegativeFrom v s t ∧ t.a = s.a ∧ t.y = s.y ∧ MemoryKept s t ∧ ControlKept s t

/-- As `SetsA`, for `Y`. -/
def SetsY (v : Byte) (s : State) (o : Host.Outcome State Fault Refusal) : Prop :=
  ∃ t, o = .next t ∧ t.y = v ∧ ZeroNegativeFrom v s t ∧ t.a = s.a ∧ t.x = s.x ∧ MemoryKept s t ∧ ControlKept s t

/-- The execution completes with `A` stored at `ea`, every other byte, every register and every flag as before. -/
def StoresAAt (ea : Word) (s : State) (o : Host.Outcome State Fault Refusal) : Prop :=
  ∃ t, o = .next t ∧ t.readByte ea = s.a ∧ MemoryKeptBut ea s t ∧
    t.a = s.a ∧ t.x = s.x ∧ t.y = s.y ∧ t.p = s.p ∧ ControlKept s t

/-- Carry is bit 7 of the operand `v`, Zero and Negative come from its shift, and every other bit of `P` is as before
(R119). -/
def ShiftFlags (v : Byte) (s t : State) : Prop :=
  t.p.getLsbD 0 = v.getLsbD 7 ∧ t.p.getLsbD 1 = (v <<< 1 == 0) ∧ t.p.getLsbD 7 = (v <<< 1).getLsbD 7 ∧
  ∀ n, n ≠ 0 → n ≠ 1 → n ≠ 7 → t.p.getLsbD n = s.p.getLsbD n

/-- The execution completes with the byte at `ea` shifted left, the flags of the shift, and nothing else changed. -/
def ShiftsAt (ea : Word) (s : State) (o : Host.Outcome State Fault Refusal) : Prop :=
  ∃ t, o = .next t ∧ t.readByte ea = s.readByte ea <<< 1 ∧ ShiftFlags (s.readByte ea) s t ∧ MemoryKeptBut ea s t ∧
    t.a = s.a ∧ t.x = s.x ∧ t.y = s.y ∧ ControlKept s t

/-- The execution completes with the flags of BIT for the operand `v` and nothing else changed (R125). -/
def TestsBits (v : Byte) (s : State) (o : Host.Outcome State Fault Refusal) : Prop :=
  ∃ t, o = .next t ∧ t.p.getLsbD 1 = (s.a &&& v == 0) ∧ t.p.getLsbD 6 = v.getLsbD 6 ∧ t.p.getLsbD 7 = v.getLsbD 7 ∧
    (∀ n, n ≠ 1 → n ≠ 6 → n ≠ 7 → t.p.getLsbD n = s.p.getLsbD n) ∧
    t.a = s.a ∧ t.x = s.x ∧ t.y = s.y ∧ MemoryKept s t ∧ ControlKept s t

/-- The execution of a branch completes: taken, `PC` is the word after the offset byte plus bits 6:0 of the offset, or minus
them where bit 7 is set, and the redirection is reported; not taken, nothing changes. Registers, flags and memory are as
before either way (R140, R141). -/
def BranchesIf (cond : Bool) (b1 : Byte) (s : State) (o : Host.Outcome State Fault Refusal) : Prop :=
  ∃ t, o = .next t ∧
    t.pc = (if cond then (if b1.getLsbD 7 then s.pc + 1 - (b1 &&& 0x7F).setWidth 16
                          else s.pc + 1 + (b1 &&& 0x7F).setWidth 16) else s.pc) ∧
    t.redirected = (if cond then true else s.redirected) ∧
    t.a = s.a ∧ t.x = s.x ∧ t.y = s.y ∧ t.p = s.p ∧ MemoryKept s t ∧ t.rs = s.rs ∧ t.hc = s.hc ∧ t.pbd = s.pbd

/-- The mnemonic is that of a branch whose condition holds: BCC with Carry clear, BCS with Carry set, BEQ with Zero set
(R142, R143, R144). -/
def TakesBranch (m : Mnemonic) (s : State) : Prop :=
  m = .bcc ∧ s.p.getLsbD 0 = false ∨ m = .bcs ∧ s.p.getLsbD 0 = true ∨ m = .beq ∧ s.p.getLsbD 1 = true

/-- The displacement of an offset byte as a number: bit 7 the sign, bits 6:0 the magnitude (R140). -/
def displacement (b1 : Byte) : Int := if b1.toNat < 128 then b1.toNat else -(b1.toNat - 128 : Int)

/-- The little-endian word of two zero-page bytes, the second at the next address of the zero page (R35). -/
def ZeroPagePointer (s : State) (p : Byte) : Word :=
  (s.readByte ((p + 1).setWidth 16)) ++ (s.readByte (p.setWidth 16))

end Sys2Proof.Machine
end

