-- ==== Sys2Proof/Certificates/Slice0/Obligations.lean ====
section
/-! DEFINITION. The statements for the provers, from the numbered rules of `spec/`. D<n> is a decision of the spec's own
(`spec/92_eei_decisions.md`), C<n> a conflict it settles, "log n" is `notes/assumptions/n.md`. -/

open Sys2Proof Sys2Proof.Machine

/-! ### Encoding -/

/-- Words written out from the encodings of R56 decode to the instructions they stand for, one of every family; 0x02 is no
opcode (R59). Opcode values by D1, log 1. -/
def Obligations.SpecWordsDecode : Prop :=
  decode [0x29, 0xAA] = .ok (.andImmediate 0xAA, []) ∧
  decode [0x0A] = .ok (.aslAccumulator, []) ∧
  decode [0x2C, 0x34, 0x12] = .ok (.bitAbsolute 0x1234, []) ∧
  decode [0x90, 0x85] = .ok (.bcc 0x85, []) ∧
  decode [0xB0, 0x04] = .ok (.bcs 0x04, []) ∧
  decode [0xF0, 0x90] = .ok (.beq 0x90, []) ∧
  decode [0xA9, 0x05] = .ok (.ldaImmediate 0x05, []) ∧
  decode [0xB6, 0xF0] = .ok (.ldxZeroPageY 0xF0, []) ∧
  decode [0xBC, 0x01, 0x80] = .ok (.ldyAbsoluteX 0x8001, []) ∧
  decode [0x91, 0x10] = .ok (.staIndirectY 0x10, []) ∧
  decode [0xAA] = .ok (.tax, []) ∧
  decode [0xE8] = .ok (.inx, []) ∧
  decode [0x00] = .ok (.brk, []) ∧
  decode [0x02] = .error (.unrecognizedOpcode 0x02)

/-- Decoding the bytes of any instruction, whatever follows them, gives that instruction back with every operand bit
(R50 to R54). -/
def Obligations.DecodeOfEncodeIsIdentity : Prop :=
  ∀ (i : Instr) (rest : List Byte), decode (encode i ++ rest) = .ok (i, rest)

/-- Every sequence of bytes that decodes begins with the encoding of the instruction it decodes to: an instruction has one
encoding (R50, R59). -/
def Obligations.DecodedBytesAreTheEncoding : Prop :=
  ∀ (bs rest : List Byte) (i : Instr), decode bs = .ok (i, rest) → bs = encode i ++ rest

/-- Under every opcode table that passes the check of R58, every instruction the table has a row for is encoded, and its
bytes decode to it under the same table. -/
def Obligations.EveryAcceptedTableRoundTrips : Prop :=
  ∀ (t : OpTable) (i : Instr) (rest : List Byte), t.wf = true → i.wellFormed t = true →
    ∃ bs, encodeWith t i = some bs ∧ bs.length = i.length ∧ decodeWith t (bs ++ rest) = .ok (i, rest)

/-- A byte followed by two more decodes exactly if it is one of the 46 bytes R59 lists; otherwise it is named an
unrecognised opcode. The list rests on D1, log 1. -/
def Obligations.RecognizedBytesAreThe46 : Prop :=
  ∀ (op b1 b2 : Byte) (rest : List Byte),
    (op ∈ ([0x00, 0x06, 0x0A, 0x0E, 0x16, 0x1E, 0x21, 0x24, 0x25, 0x29, 0x2C, 0x2D, 0x31, 0x35, 0x39, 0x3D, 0x81, 0x85,
        0x8D, 0x90, 0x91, 0x95, 0x99, 0x9D, 0xA0, 0xA1, 0xA2, 0xA4, 0xA5, 0xA6, 0xA9, 0xAA, 0xAC, 0xAD, 0xAE, 0xB0,
        0xB1, 0xB4, 0xB5, 0xB6, 0xB9, 0xBC, 0xBD, 0xBE, 0xE8, 0xF0] : List Byte) →
      ∃ i r, decode (op :: b1 :: b2 :: rest) = .ok (i, r)) ∧
    (op ∉ ([0x00, 0x06, 0x0A, 0x0E, 0x16, 0x1E, 0x21, 0x24, 0x25, 0x29, 0x2C, 0x2D, 0x31, 0x35, 0x39, 0x3D, 0x81, 0x85,
        0x8D, 0x90, 0x91, 0x95, 0x99, 0x9D, 0xA0, 0xA1, 0xA2, 0xA4, 0xA5, 0xA6, 0xA9, 0xAA, 0xAC, 0xAD, 0xAE, 0xB0,
        0xB1, 0xB4, 0xB5, 0xB6, 0xB9, 0xBC, 0xBD, 0xBE, 0xE8, 0xF0] : List Byte) →
      decode (op :: b1 :: b2 :: rest) = .error (.unrecognizedOpcode op))

/-- The default table and `OPTABLE_ATTESTED` pass the check of R58, have 46 and 6 rows, and leave 210 and 250 bytes
unrecognised (R56, R57, R59; D1). -/
def Obligations.BothTablesPassTheCheck : Prop :=
  optable.wf = true ∧ optableAttested.wf = true ∧ optable.length = 46 ∧ optableAttested.length = 6 ∧
  ((List.range 256).countP fun n => (optable.lookup (BitVec.ofNat 8 n)).isNone) = 210 ∧
  ((List.range 256).countP fun n => (optableAttested.lookup (BitVec.ofNat 8 n)).isNone) = 250

/-! ### The step -/

/-- In `Running`, when the bytes at `PC` decode to `i`, the step is `exec i` on the state with `PC` at the first operand byte
and its snapshot taken; afterwards `PC` is moved past the operand bytes unless it no longer equals the snapshot or the core
halted, and the transients end (R91 to R96, R98). The default setting `pc_compare` is D5, log 2. -/
def Obligations.StepRunsTheDecodedInstruction : Prop :=
  ∀ (s t : State) (i : Instr) (rest : List Byte), s.rs = .running → decode s.fetchBytes = .ok (i, rest) →
    exec i { s with pc := s.pc + 1, pbd := some (s.pc + 1), redirected := false } = .next t →
    step s = .next { t with
      pc := if t.rs = .halted ∨ t.pbd ≠ some t.pc then t.pc else t.pc + (BitVec.ofNat 16 i.length - 1)
      pbd := none
      redirected := false }

/-- Outside `Running` no step is taken: the state is unchanged (R90, R226; D7, log 5). -/
def Obligations.NoStepOutsideRunning : Prop :=
  ∀ s : State, s.rs ≠ .running → step s = .next s

/-- A byte that is no opcode of the table halts the core with the byte and its address as the cause, and changes nothing
else: `PC` stays at the byte (R197, R201, R204). `PC` and the rest unchanged is D6 and C1, log 4; a next state, not a Lean
fault, is log 3. -/
def Obligations.UnrecognizedOpcodeHalts : Prop :=
  ∀ s : State, s.rs = .running → optable.lookup (s.readByte s.pc) = none →
    step s = .next { s with rs := .halted, hc := .unrecognizedOpcode (s.readByte s.pc) s.pc }

/-- The table of R101: `PC` after every kind of step of the default machine. A step whose bytes decode to an instruction moves
`PC` past it, but for a taken branch, which goes to its target, or past itself where the offset byte is 0x81; BRK moves `PC` by
one and halts; an unrecognised opcode leaves `PC` at it and halts. The branch rows rest on D3 and D4 (log 12) and D5 (log 2),
the lengths on D2 (log 23), the last row on D6 (log 4), which byte is which instruction on D1 (log 1). -/
def Obligations.PcAfterEveryKindOfStep : Prop :=
  ∀ s : State, s.rs = .running →
    (∀ (i : Instr) (rest : List Byte), decode s.fetchBytes = .ok (i, rest) →
      ∃ t, step s = .next t ∧
        (i.mnemonic ∉ ([.bcc, .bcs, .beq] : List Mnemonic) → t.pc = s.pc + BitVec.ofNat 16 i.length) ∧
        (i = .brk → t.pc = s.pc + 1 ∧ t.rs = .halted) ∧
        (∀ b1, (i = .bcc b1 ∧ s.p.getLsbD 0 = true ∨ i = .bcs b1 ∧ s.p.getLsbD 0 = false ∨
                i = .beq b1 ∧ s.p.getLsbD 1 = false) → t.pc = s.pc + 2) ∧
        (∀ b1, (i = .bcc b1 ∧ s.p.getLsbD 0 = false ∨ i = .bcs b1 ∧ s.p.getLsbD 0 = true ∨
                i = .beq b1 ∧ s.p.getLsbD 1 = true) →
          t.pc = if b1 = 0x81 then s.pc + 2
                 else if b1.getLsbD 7 then s.pc + 2 - (b1 &&& 0x7F).setWidth 16
                 else s.pc + 2 + (b1 &&& 0x7F).setWidth 16)) ∧
    ((∀ (i : Instr) (rest : List Byte), decode s.fetchBytes ≠ .ok (i, rest)) →
      ∃ t, step s = .next t ∧ t.pc = s.pc ∧ t.rs = .halted)

/-- The machine through the decoder and `exec` is the machine of R98's pseudocode with both parameters of R7 at their
defaults, the default table (D1, log 1) and `pc_compare` (D5, log 2): a step of the one is a step of the other, from every
state. -/
def Obligations.StepIsTheTableStep : Prop :=
  ∀ s : State, step s = .next (stepTable { optable := optable, redirect := .pcCompare } s)

/-- The resolver: the effective address of every mode, with the operand bytes read at `PC`, is the one R84's pseudocode
gives (R70 to R80), and Accumulator and Implicit have none (R81, R82); the operand value is `A` for Accumulator, absent for
Implicit, and otherwise the byte at the effective address (R83). -/
def Obligations.ResolverFollowsThePseudocode : Prop :=
  ∀ s : State,
    s.effectiveAddress (s.operandAt .immediate) = some s.pc ∧
    s.effectiveAddress (s.operandAt .relative) = some s.pc ∧
    s.effectiveAddress (s.operandAt .zeroPage) = some ((s.readByte s.pc).setWidth 16) ∧
    s.effectiveAddress (s.operandAt .zeroPageX) = some ((s.readByte s.pc + s.x).setWidth 16) ∧
    s.effectiveAddress (s.operandAt .zeroPageY) = some ((s.readByte s.pc + s.y).setWidth 16) ∧
    s.effectiveAddress (s.operandAt .absolute) = some (s.readByte (s.pc + 1) ++ s.readByte s.pc) ∧
    s.effectiveAddress (s.operandAt .absoluteX) =
      some ((s.readByte (s.pc + 1) ++ s.readByte s.pc : Word) + s.x.setWidth 16) ∧
    s.effectiveAddress (s.operandAt .absoluteY) =
      some ((s.readByte (s.pc + 1) ++ s.readByte s.pc : Word) + s.y.setWidth 16) ∧
    s.effectiveAddress (s.operandAt .indirectX) = some (ZeroPagePointer s (s.readByte s.pc + s.x)) ∧
    s.effectiveAddress (s.operandAt .indirectY) =
      some (ZeroPagePointer s (s.readByte s.pc) + s.y.setWidth 16) ∧
    s.effectiveAddress (s.operandAt .accumulator) = none ∧
    s.effectiveAddress (s.operandAt .implicit) = none ∧
    s.operandValue (s.operandAt .accumulator) = some s.a ∧
    s.operandValue (s.operandAt .implicit) = none ∧
    ∀ m, m ≠ .accumulator → m ≠ .implicit →
      ∃ ea, s.effectiveAddress (s.operandAt m) = some ea ∧ s.operandValue (s.operandAt m) = some (s.readByte ea)

/-! ### Results of the instructions -/

/-- AND, its eight forms: `A` becomes `A & v` for the operand `v` of the form, Zero and Negative come from the new `A`,
nothing else changes (R110; the operands of the forms as R111 to R118 write them). -/
def Obligations.AndCompletes : Prop :=
  ∀ (s : State) (b1 : Byte) (w : Word),
    SetsA (s.a &&& b1) s (exec (.andImmediate b1) s) ∧
    SetsA (s.a &&& s.readByte (b1.setWidth 16)) s (exec (.andZeroPage b1) s) ∧
    SetsA (s.a &&& s.readByte ((b1 + s.x).setWidth 16)) s (exec (.andZeroPageX b1) s) ∧
    SetsA (s.a &&& s.readByte w) s (exec (.andAbsolute w) s) ∧
    SetsA (s.a &&& s.readByte (w + s.x.setWidth 16)) s (exec (.andAbsoluteX w) s) ∧
    SetsA (s.a &&& s.readByte (w + s.y.setWidth 16)) s (exec (.andAbsoluteY w) s) ∧
    SetsA (s.a &&& s.readByte (ZeroPagePointer s (b1 + s.x))) s (exec (.andIndirectX b1) s) ∧
    SetsA (s.a &&& s.readByte (ZeroPagePointer s b1 + s.y.setWidth 16)) s (exec (.andIndirectY b1) s)

/-- ASL, its five forms: the operand shifted left by one, written back to `A` or to the byte it was read from, Carry from the
old bit 7, Zero and Negative from the result, nothing else changed (R119; the operands of the forms as R120 to R124 write them). -/
def Obligations.AslCompletes : Prop :=
  ∀ (s : State) (b1 : Byte) (w : Word),
    (∃ t, exec .aslAccumulator s = .next t ∧ t.a = s.a <<< 1 ∧ ShiftFlags s.a s t ∧ t.x = s.x ∧ t.y = s.y ∧
      MemoryKept s t ∧ ControlKept s t) ∧
    ShiftsAt (b1.setWidth 16) s (exec (.aslZeroPage b1) s) ∧
    ShiftsAt ((b1 + s.x).setWidth 16) s (exec (.aslZeroPageX b1) s) ∧
    ShiftsAt w s (exec (.aslAbsolute w) s) ∧
    ShiftsAt (w + s.x.setWidth 16) s (exec (.aslAbsoluteX w) s)

/-- BIT, its two forms: Zero from `A & v`, Overflow and Negative from bits 6 and 7 of the operand `v`, nothing else changed
(R125; the operands of the forms as R126, R127 write them). -/
def Obligations.BitCompletes : Prop :=
  ∀ (s : State) (b1 : Byte) (w : Word),
    TestsBits (s.readByte (b1.setWidth 16)) s (exec (.bitZeroPage b1) s) ∧
    TestsBits (s.readByte w) s (exec (.bitAbsolute w) s)

/-- LDA, its eight forms: `A` becomes the operand, Zero and Negative come from it, nothing else changes (R150; the operands of the forms as
R151 to R158 write them). -/
def Obligations.LdaCompletes : Prop :=
  ∀ (s : State) (b1 : Byte) (w : Word),
    SetsA b1 s (exec (.ldaImmediate b1) s) ∧
    SetsA (s.readByte (b1.setWidth 16)) s (exec (.ldaZeroPage b1) s) ∧
    SetsA (s.readByte ((b1 + s.x).setWidth 16)) s (exec (.ldaZeroPageX b1) s) ∧
    SetsA (s.readByte w) s (exec (.ldaAbsolute w) s) ∧
    SetsA (s.readByte (w + s.x.setWidth 16)) s (exec (.ldaAbsoluteX w) s) ∧
    SetsA (s.readByte (w + s.y.setWidth 16)) s (exec (.ldaAbsoluteY w) s) ∧
    SetsA (s.readByte (ZeroPagePointer s (b1 + s.x))) s (exec (.ldaIndirectX b1) s) ∧
    SetsA (s.readByte (ZeroPagePointer s b1 + s.y.setWidth 16)) s (exec (.ldaIndirectY b1) s)

/-- LDX, its five forms: `X` becomes the operand, indexed by `Y` in the indexed forms, Zero and Negative come from it,
nothing else changes (R159; the operands of the forms as R160 to R164 write them). -/
def Obligations.LdxCompletes : Prop :=
  ∀ (s : State) (b1 : Byte) (w : Word),
    SetsX b1 s (exec (.ldxImmediate b1) s) ∧
    SetsX (s.readByte (b1.setWidth 16)) s (exec (.ldxZeroPage b1) s) ∧
    SetsX (s.readByte ((b1 + s.y).setWidth 16)) s (exec (.ldxZeroPageY b1) s) ∧
    SetsX (s.readByte w) s (exec (.ldxAbsolute w) s) ∧
    SetsX (s.readByte (w + s.y.setWidth 16)) s (exec (.ldxAbsoluteY w) s)

/-- LDY, its five forms: `Y` becomes the operand, indexed by `X` in the indexed forms, Zero and Negative come from it,
nothing else changes (R165; the operands of the forms as R166 to R170 write them). -/
def Obligations.LdyCompletes : Prop :=
  ∀ (s : State) (b1 : Byte) (w : Word),
    SetsY b1 s (exec (.ldyImmediate b1) s) ∧
    SetsY (s.readByte (b1.setWidth 16)) s (exec (.ldyZeroPage b1) s) ∧
    SetsY (s.readByte ((b1 + s.x).setWidth 16)) s (exec (.ldyZeroPageX b1) s) ∧
    SetsY (s.readByte w) s (exec (.ldyAbsolute w) s) ∧
    SetsY (s.readByte (w + s.x.setWidth 16)) s (exec (.ldyAbsoluteX w) s)

/-- STA, its seven forms: `A` is stored at the address of the form, every other byte, every register and every flag keeps
its value (R171; the operands of the forms as R172 to R178 write them). -/
def Obligations.StaCompletes : Prop :=
  ∀ (s : State) (b1 : Byte) (w : Word),
    StoresAAt (b1.setWidth 16) s (exec (.staZeroPage b1) s) ∧
    StoresAAt ((b1 + s.x).setWidth 16) s (exec (.staZeroPageX b1) s) ∧
    StoresAAt w s (exec (.staAbsolute w) s) ∧
    StoresAAt (w + s.x.setWidth 16) s (exec (.staAbsoluteX w) s) ∧
    StoresAAt (w + s.y.setWidth 16) s (exec (.staAbsoluteY w) s) ∧
    StoresAAt (ZeroPagePointer s (b1 + s.x)) s (exec (.staIndirectX b1) s) ∧
    StoresAAt (ZeroPagePointer s b1 + s.y.setWidth 16) s (exec (.staIndirectY b1) s)

/-- TAX: `X` becomes `A`, Zero and Negative come from it, nothing else changes; as a step of the byte 0xAA, `PC` moves by one
(R190). -/
def Obligations.TaxCompletes : Prop :=
  ∀ s : State, SetsX s.a s (exec .tax s) ∧
    (s.rs = .running → s.readByte s.pc = 0xAA →
      ∃ t, step s = .next t ∧ t.x = s.a ∧ ZeroNegativeFrom s.a s t ∧ t.a = s.a ∧ t.y = s.y ∧ MemoryKept s t ∧
        t.pc = s.pc + 1 ∧ t.rs = s.rs ∧ t.hc = s.hc)

/-- INX: `X` becomes `X + 1` modulo 256, Zero and Negative come from it, nothing else changes, Carry and Overflow among it; as
a step of the byte 0xE8, `PC` moves by one (R191). -/
def Obligations.InxCompletes : Prop :=
  ∀ s : State, SetsX (s.x + 1) s (exec .inx s) ∧
    (s.rs = .running → s.readByte s.pc = 0xE8 →
      ∃ t, step s = .next t ∧ t.x = s.x + 1 ∧ ZeroNegativeFrom (s.x + 1) s t ∧ t.a = s.a ∧ t.y = s.y ∧
        MemoryKept s t ∧ t.pc = s.pc + 1 ∧ t.rs = s.rs ∧ t.hc = s.hc)

/-- BCC, BCS, BEQ: taken exactly when Carry is clear, Carry is set, Zero is set; a taken branch goes to the address after
the offset byte plus or minus bits 6:0 of the offset, one not taken changes nothing; no register, flag or memory byte
changes (R142 to R144 with R140, R141). Sign-magnitude and the base are D3 and D4, log 12. -/
def Obligations.BranchesComplete : Prop :=
  ∀ (s : State) (b1 : Byte),
    BranchesIf (!s.p.getLsbD 0) b1 s (exec (.bcc b1) s) ∧
    BranchesIf (s.p.getLsbD 0) b1 s (exec (.bcs b1) s) ∧
    BranchesIf (s.p.getLsbD 1) b1 s (exec (.beq b1) s)

/-- BRK: the core halts with the cause BRK and nothing else changes; as a step of the byte 0x00, `PC` ends one past it, and no
transient is left (R195, R196; D16 and D21, log 14). -/
def Obligations.BrkHaltsNormally : Prop :=
  ∀ s : State, exec .brk s = .next { s with rs := .halted, hc := .brk } ∧
    (s.rs = .running → s.readByte s.pc = 0x00 →
      step s = .next { s with rs := .halted, hc := .brk, pc := s.pc + 1, pbd := none, redirected := false })

/-- Every instruction completes from every state, and every step answers a next state: the machine has no fault that loses
the state (R99, R200). -/
def Obligations.EveryInstructionCompletes : Prop :=
  (∀ (i : Instr) (s : State), ∃ t, exec i s = .next t) ∧ ∀ s : State, ∃ t, step s = .next t

/-- The branch target as a number: a taken branch ends at the address after the offset byte plus the signed displacement of
the offset, modulo 65536 (R140, R141, R146; D3, D4). -/
def Obligations.BranchTargetIsSignMagnitude : Prop :=
  ∀ (base : Word) (b1 : Byte), ((branchTarget base b1).toNat : Int) = (base.toNat + displacement b1) % 65536

/-- A taken branch, BCC, BCS or BEQ, with offset byte 0x81 ends, with `pc_compare`, at the address after the branch, as if not
taken, and with `explicit` at its own offset byte; over every table that passes R58 (R96, R97, R145; D5, log 2; the offset and
its base D3, D4, log 12). -/
def Obligations.DisplacementMinusOneCorner : Prop :=
  ∀ (tb : OpTable) (d : Descriptor) (s : State), tb.wf = true → s.rs = .running →
    tb.lookup (s.readByte s.pc) = some d → TakesBranch d.mnemonic s → s.readByte (s.pc + 1) = 0x81 →
    stepTable { optable := tb, redirect := .pcCompare } s =
      { s with pc := s.pc + 2, pbd := none, redirected := false } ∧
    stepTable { optable := tb, redirect := .explicit } s =
      { s with pc := s.pc + 1, pbd := none, redirected := false }

/-- In every other case the two settings of `REDIRECT_DETECT` agree: from any state but one in which a taken branch with offset
byte 0x81 is next (R96, R97; D5, log 2). It holds over any table at all, tables that R58 refuses among them, which `stepTable`
takes by the model's choice (log 18). -/
def Obligations.RedirectSettingsAgreeElsewhere : Prop :=
  ∀ (tb : OpTable) (s : State),
    (∀ d, tb.lookup (s.readByte s.pc) = some d → TakesBranch d.mnemonic s → s.readByte (s.pc + 1) ≠ 0x81) →
    stepTable { optable := tb, redirect := .pcCompare } s = stepTable { optable := tb, redirect := .explicit } s

/-! ### What no instruction does -/

/-- Carry changes only by ASL, Overflow only by BIT, Zero and Negative only by AND, ASL, BIT, LDA, LDX, LDY, TAX, INX, and no
instruction changes bits 2 to 5 (the table of R14, R15, R16, R18). -/
def Obligations.FlagsChangeOnlyByTheirWriters : Prop :=
  ∀ (i : Instr) (s t : State), exec i s = .next t →
    (t.p.getLsbD 0 ≠ s.p.getLsbD 0 → i.mnemonic = .asl) ∧
    (t.p.getLsbD 6 ≠ s.p.getLsbD 6 → i.mnemonic = .bit) ∧
    (t.p.getLsbD 1 ≠ s.p.getLsbD 1 ∨ t.p.getLsbD 7 ≠ s.p.getLsbD 7 →
      i.mnemonic ∈ ([.and, .asl, .bit, .lda, .ldx, .ldy, .tax, .inx] : List Mnemonic)) ∧
    ∀ n, 2 ≤ n → n ≤ 5 → t.p.getLsbD n = s.p.getLsbD n

/-- Who may change what: `A` only AND, LDA and ASL Accumulator; `X` only LDX, TAX, INX; `Y` only LDY; `PC` and `REDIRECTED`
only the branches; `RS` and `HC` only BRK; a byte of memory only STA and the memory forms of ASL, and only the byte at the
form's effective address (R10 to R12, R20, R28, R94). -/
def Obligations.StateChangesOnlyByItsWriters : Prop :=
  ∀ (i : Instr) (s t : State), exec i s = .next t →
    (t.a ≠ s.a → i.mnemonic = .and ∨ i.mnemonic = .lda ∨ i = .aslAccumulator) ∧
    (t.x ≠ s.x → i.mnemonic = .ldx ∨ i = .tax ∨ i = .inx) ∧
    (t.y ≠ s.y → i.mnemonic = .ldy) ∧
    (t.pc ≠ s.pc ∨ t.redirected ≠ s.redirected → i.mnemonic ∈ ([.bcc, .bcs, .beq] : List Mnemonic)) ∧
    (t.rs ≠ s.rs ∨ t.hc ≠ s.hc → i = .brk) ∧
    t.pbd = s.pbd ∧
    ∀ b : Word, t.readByte b ≠ s.readByte b →
      (i.mnemonic = .sta ∨ i.mnemonic = .asl ∧ i ≠ .aslAccumulator) ∧ s.effectiveAddress i.operand = some b

/-- Bits 2 to 5 of `P` are carried unchanged through every step, whatever they hold (R16; D11, log 13). -/
def Obligations.UnnamedStatusBitsCarried : Prop :=
  ∀ s t : State, step s = .next t → t.p &&& 0x3C = s.p &&& 0x3C

/-- No instruction reads Negative or Overflow: two states that differ in those two bits at most step to states that differ in
those two bits at most (R147, the table of R14). -/
def Obligations.NegativeAndOverflowAreNeverRead : Prop :=
  ∀ (s t : State) (q : Byte), (∀ n, n ≠ 6 → n ≠ 7 → q.getLsbD n = s.p.getLsbD n) → step s = .next t →
    ∃ t', step { s with p := q } = .next t' ∧ { t' with p := t.p } = t ∧
      ∀ n, n ≠ 6 → n ≠ 7 → t'.p.getLsbD n = t.p.getLsbD n

/-! ### Memory and flags -/

/-- A byte written is read back at its address; every other byte and all other state is as before; every address is
writable (R32). -/
def Obligations.ByteWriteChangesOneByte : Prop :=
  ∀ (s : State) (ad : Word) (v : Byte),
    (s.writeByte ad v).readByte ad = v ∧ (∀ b, b ≠ ad → (s.writeByte ad v).readByte b = s.readByte b) ∧
    { s.writeByte ad v with mem := s.mem } = s

/-- Words in memory are little-endian at any address, a word at 0xFFFF has its high byte at 0x0000, a word written is read
back and changes its two bytes only, and a zero-page word never leaves the zero page (R33, R34, R35, R37, R39; D10,
log 15). -/
def Obligations.WordsAreLittleEndianAndWrap : Prop :=
  ∀ (s : State) (ad v : Word) (p : Byte),
    s.readWord ad = s.readByte (ad + 1) ++ s.readByte ad ∧
    s.readWord 0xFFFF = s.readByte 0x0000 ++ s.readByte 0xFFFF ∧
    (s.writeWord ad v).readByte ad = v.extractLsb' 0 8 ∧ (s.writeWord ad v).readByte (ad + 1) = v.extractLsb' 8 8 ∧
    (s.writeWord ad v).readWord ad = v ∧
    (∀ b, b ≠ ad → b ≠ ad + 1 → (s.writeWord ad v).readByte b = s.readByte b) ∧
    s.readZeroPageWord p = s.readByte ((p + 1).setWidth 16) ++ s.readByte (p.setWidth 16) ∧
    s.readZeroPageWord 0xFF = s.readByte 0x0000 ++ s.readByte 0x00FF

/-- The canonical form is canonical: two memories in it that read alike at every address are the same data (R20, R30; the
form is the model's, log 11). -/
def Obligations.CanonicalMemoriesAreEqualWhenTheyReadAlike : Prop :=
  ∀ m m' : Memory, Memory.wf m = true → Memory.wf m' = true →
    (∀ b : Word, Memory.get m b.toNat = Memory.get m' b.toNat) → m = m'

/-- The three primitives on a flag with mask `m`: set is `P | m`, clear is `P & ~m`, test is `(P & m) != 0`; each touches, or
reads, the one bit of `m`; `P.f <- b` is set or clear by the condition. Carry, Zero, Overflow, Negative are bits 0, 1, 6, 7
(R15, with the masks of R14). -/
def Obligations.FlagPrimitivesTouchOneBit : Prop :=
  ∀ (s : State) (f : Flag) (k : Nat), (f, k) ∈ ([(.carry, 0), (.zero, 1), (.overflow, 6), (.negative, 7)] : List (Flag × Nat)) →
    s.setFlag f = { s with p := s.p ||| BitVec.ofNat 8 (2 ^ k) } ∧
    s.clearFlag f = { s with p := s.p &&& ~~~BitVec.ofNat 8 (2 ^ k) } ∧
    s.testFlag f = (s.p &&& BitVec.ofNat 8 (2 ^ k) != 0) ∧
    (s.setFlag f).p.getLsbD k = true ∧ (s.clearFlag f).p.getLsbD k = false ∧ s.testFlag f = s.p.getLsbD k ∧
    (∀ n, n ≠ k → (s.setFlag f).p.getLsbD n = s.p.getLsbD n ∧ (s.clearFlag f).p.getLsbD n = s.p.getLsbD n) ∧
    ∀ b : Bool, s.writeFlag f b = if b then s.setFlag f else s.clearFlag f

/-- A store is seen by the next fetch: after a step of any form of STA or any memory form of ASL, wherever it stores, the three
bytes the next step decodes are those of memory before the step with the byte stored, `A` or the shifted byte, at the form's
effective address (R44, R46, R236). Which bytes are STA and ASL rests on D1, log 1. -/
def Obligations.StoreIsSeenByTheNextFetch : Prop :=
  ∀ (s : State) (i : Instr) (rest : List Byte) (ea : Word), s.rs = .running → decode s.fetchBytes = .ok (i, rest) →
    (i.mnemonic = .sta ∨ i.mnemonic = .asl) → s.effectiveAddress i.operand = some ea →
    ∃ t, step s = .next t ∧ t.rs = .running ∧ t.pc = s.pc + BitVec.ofNat 16 i.length ∧
      t.fetchBytes = [t.pc, t.pc + 1, t.pc + 2].map fun b =>
        if b = ea then (if i.mnemonic = .sta then s.a else s.readByte ea <<< 1) else s.readByte b

/-! ### Invariants -/

/-- The invariant holds of the machine as constructed and right after reset (R26, R220, R221). -/
def Obligations.ConstructAndResetMeetTheInvariant : Prop :=
  State.construct.Inv ∧ State.reset.Inv

/-- From every state that meets the invariant, a step leads to a state that meets it (R16, R20, R22, R23, R27, R99, R202,
R230). -/
def Obligations.EveryStepKeepsTheInvariant : Prop :=
  ∀ s t : State, s.Inv → step s = .next t → t.Inv

/-- Every state the host can bring the machine to, by any order of loads, resets and steps, meets the invariant (R16, R22,
R27, R230). -/
def Obligations.EveryReachableStateMeetsTheInvariant : Prop :=
  ∀ s : State, Reachable s → s.Inv

/-- Over any table that passes R58, no step raises `UnsupportedAddressingMode`, whatever memory holds (R202; D20, log 18). -/
def Obligations.UnsupportedModeIsUnreachable : Prop :=
  ∀ (cfg : Config) (s : State), cfg.optable.wf = true → (∀ m, s.hc ≠ .unsupportedAddressingMode m) →
    ∀ m, (stepTable cfg s).hc ≠ .unsupportedAddressingMode m

/-- Over any table at all, a step that raises `UnsupportedAddressingMode` halts the core with that cause and leaves every
register, flag and byte of memory as before the step (R202, R204; D24, log 18). -/
def Obligations.UnsupportedModeChangesNothingElse : Prop :=
  ∀ (cfg : Config) (s : State) (m : Mode), s.rs = .running → s.hc = .none →
    (stepTable cfg s).hc = .unsupportedAddressingMode m →
    stepTable cfg s =
      { s with rs := .halted, hc := .unsupportedAddressingMode m, pbd := none, redirected := false }

/-! ### Runs and the host -/

/-- `Halted` is absorbing: any number of steps leaves a halted state as it is (R205, R230; D19, log 17). -/
def Obligations.HaltedIsAbsorbing : Prop :=
  ∀ (k : Nat) (s : State), s.rs = .halted → Sys2Proof.core.run k s = .next s

/-- A step from `Running` leaves the core running with no cause, or ends the run in one of two ways: by BRK, with `PC` exactly
one byte past a 0x00 and nothing else changed, or by a byte that is no opcode, with the byte and its address recorded (R21,
R102, R195, R201, R231). -/
def Obligations.RunsEndByBrkOrUnrecognizedOpcode : Prop :=
  ∀ s t : State, s.rs = .running → s.hc = .none → step s = .next t →
    (t.rs = .running ∧ t.hc = .none) ∨
    (t.endedNormally = true ∧ s.readByte s.pc = 0x00 ∧ t.pc = s.pc + 1 ∧ t.mem = s.mem ∧ t.a = s.a ∧ t.x = s.x ∧
      t.y = s.y ∧ t.p = s.p) ∨
    (t.faulted = true ∧ t.hc = .unrecognizedOpcode (s.readByte s.pc) s.pc ∧ optable.lookup (s.readByte s.pc) = none)

/-- A branch to itself never halts and never faults: BCC with offset byte 0x82 and Carry clear comes back to the same state
after every number of steps (R145, R238; D3, D22). -/
def Obligations.BranchToItselfRunsForEver : Prop :=
  ∀ (k : Nat) (s : State), s.rs = .running → s.pbd = none → s.redirected = false → s.readByte s.pc = 0x90 →
    s.readByte (s.pc + 1) = 0x82 → s.p.getLsbD 0 = false →
    Sys2Proof.core.run k s = .next s ∧ SafeRun k s

/-- A fuelled `run()` reports a halt exactly when steps of the machine, at most as many as its fuel, come to a halted state, and
reports that state and its halt cause; it is out of fuel exactly when as many steps as its fuel leave the core running; called
in `Reset` it returns without a step (R102, R227, R238; D22, log 20). -/
def Obligations.RunReportsTheHaltCause : Prop :=
  ∀ (fuel : Nat) (s t : State) (c : HaltCause),
    (run fuel s = .halted c t ↔
      t.rs = .halted ∧ t.hc = c ∧ ∃ k, k ≤ fuel ∧ Sys2Proof.core.run k s = .next t) ∧
    (run fuel s = .outOfFuel t ↔ t.rs = .running ∧ Sys2Proof.core.run fuel s = .next t) ∧
    (s.rs = .reset → run fuel s = .notRunning s)

/-- `reset()`: `A`, `X`, `Y`, `P` zeroed, `PC` the little-endian word at 0xFFFC, running, no halt cause, memory as before, from
any state whatever its run state; on a constructed core `PC` is 0x0000, where 0x00 is found, and after a `load` it is 0x8000
(R221, R223; that it is accepted in every run state is R222, D8, log 17). -/
def Obligations.ResetReadsTheVector : Prop :=
  (∀ s : State, (hostReset s).a = 0x00 ∧ (hostReset s).x = 0x00 ∧ (hostReset s).y = 0x00 ∧ (hostReset s).p = 0x00 ∧
    (hostReset s).pc = s.readByte 0xFFFD ++ s.readByte 0xFFFC ∧ (hostReset s).rs = .running ∧
    (hostReset s).hc = .none ∧ MemoryKept s (hostReset s)) ∧
  (hostReset State.construct).pc = 0x0000 ∧ (hostReset State.construct).readByte 0x0000 = 0x00 ∧
  ∀ (bytes : List Byte) (s t : State), load bytes s = some t → (hostReset t).pc = 0x8000

/-- A constructed core has `A`, `X`, `Y`, `P` and every byte of memory 0x00, `PC` 0x0000, and is in `Reset` with no halt cause;
the core exists over the default table; and the model's reset state is `reset()` of it (R26, R220, R221; `Reset` and `None`
are D7 and D19, log 7; the reset state is log 6). -/
def Obligations.ResetStateIsResetOfConstruct : Prop :=
  State.reset = hostReset State.construct ∧ constructWith optable = some State.construct ∧
  State.construct.a = 0x00 ∧ State.construct.x = 0x00 ∧ State.construct.y = 0x00 ∧ State.construct.p = 0x00 ∧
  State.construct.pc = 0x0000 ∧ (∀ b : Word, State.construct.readByte b = 0x00) ∧
  State.construct.rs = .reset ∧ State.construct.hc = .none

/-- `load(bytes)` of at most 0x8000 bytes puts byte `i` at `0x8000 + i` but for the reset vector, which holds 0x8000, and
changes no other byte and no register, flag, `PC`, run state or halt cause; a longer sequence is refused (R224, R225, R239;
D9, log 16). -/
def Obligations.LoadPlacesTheProgram : Prop :=
  (∀ (bytes : List Byte) (s : State), bytes.length ≤ 0x8000 →
    ∃ t, load bytes s = some t ∧
      (∀ i (h : i < bytes.length), i ≠ 0x7FFC → i ≠ 0x7FFD → t.readByte (BitVec.ofNat 16 (0x8000 + i)) = bytes[i]) ∧
      t.readByte 0xFFFC = 0x00 ∧ t.readByte 0xFFFD = 0x80 ∧
      (∀ b : Word, (b.toNat < 0x8000 ∨ 0x8000 + bytes.length ≤ b.toNat) → b ≠ 0xFFFC → b ≠ 0xFFFD →
        t.readByte b = s.readByte b) ∧
      { t with mem := s.mem } = s) ∧
  ∀ (bytes : List Byte) (s : State), 0x8000 < bytes.length → load bytes s = none

/-- The boot sequence starts the program: after `construct`, `load` of any program that fits, `reset`, the core is running at
0x8000 with registers and flags zero, and the bytes fetched next are the program's first, with 0x00 after a program of fewer
than three (R221, R224, R229, R237; the bound on the length is D9, log 16). -/
def Obligations.BootStartsTheProgram : Prop :=
  ∀ bytes : List Byte, bytes.length ≤ 0x8000 →
    ∃ t, boot bytes = some t ∧ t.rs = .running ∧ t.hc = .none ∧ t.pc = 0x8000 ∧ t.a = 0 ∧ t.x = 0 ∧ t.y = 0 ∧ t.p = 0 ∧
      t.fetchBytes = (bytes ++ [0x00, 0x00, 0x00]).take 3

/-- With `OPTABLE_ATTESTED` the six attested opcodes step as with the default table, and every other byte is an unrecognised
opcode (R57, R59). -/
def Obligations.AttestedTableIsASubTable : Prop :=
  ∀ (rd : RedirectDetect) (s : State), s.rs = .running →
    (s.readByte s.pc ∈ ([0x00, 0x0A, 0x90, 0xA9, 0xAA, 0xE8] : List Byte) →
      stepTable { optable := optableAttested, redirect := rd } s = stepTable { optable := optable, redirect := rd } s) ∧
    (s.readByte s.pc ∉ ([0x00, 0x0A, 0x90, 0xA9, 0xAA, 0xE8] : List Byte) →
      stepTable { optable := optableAttested, redirect := rd } s =
        { s with rs := .halted, hc := .unrecognizedOpcode (s.readByte s.pc) s.pc })
end

