-- ==== Sys2Proof/Laws/Format.lean ====
section
/-! SUPPORT. A word and its two bytes. -/
namespace Sys2Proof

/-- Bits 7:0 of a word are its low byte, bits 15:8 its high byte. -/
theorem wordOf_getLsbD (hi lo : Byte) (n : Nat) :
    (wordOf hi lo).getLsbD n = if n < 8 then lo.getLsbD n else hi.getLsbD (n - 8) :=
  BitVec.getLsbD_append.trans (by simp)

@[simp] theorem lowByte_wordOf (hi lo : Byte) : lowByte (wordOf hi lo) = lo := by
  apply BitVec.eq_of_getLsbD_eq
  intro n hn
  simp only [lowByte, BitVec.getLsbD_extractLsb', wordOf_getLsbD]
  simp [hn]

@[simp] theorem highByte_wordOf (hi lo : Byte) : highByte (wordOf hi lo) = hi := by
  apply BitVec.eq_of_getLsbD_eq
  intro n hn
  simp only [highByte, BitVec.getLsbD_extractLsb', wordOf_getLsbD]
  simp [hn]

@[simp] theorem wordOf_highByte_lowByte (w : Word) : wordOf (highByte w) (lowByte w) = w := by
  apply BitVec.eq_of_getLsbD_eq
  intro n hn
  simp only [wordOf_getLsbD, highByte, lowByte, BitVec.getLsbD_extractLsb']
  split
  · next h => simp [h]
  · next h => simp [show n - 8 < 8 by omega, show 8 + (n - 8) = n by omega]

theorem Mode.length_pos (m : Mode) : 0 < m.length := by cases m <;> decide

theorem Mode.length_le (m : Mode) : m.length ≤ 3 := by cases m <;> decide

theorem Operand.length_bytes (o : Operand) : o.bytes.length + 1 = o.mode.length := by cases o <;> rfl

end Sys2Proof
end

