-- ==== Sys2Proof/Laws/Decode.lean ====
section
/-! SUPPORT. The decoder and the encoder, piece by piece: the operand bytes, the table, the pairs of mnemonic and mode. -/
namespace Sys2Proof

/-- The operand bytes of an operand, taken back under its mode. -/
theorem takeOperand_bytes (o : Operand) (rest : List Byte) :
    takeOperand o.mode (o.bytes ++ rest) = some (o, rest) := by
  cases o <;> simp [takeOperand, Operand.mode, Operand.bytes]

/-- What is taken as an operand has the mode asked for, and its bytes stood at the head. -/
theorem takeOperand_some {m : Mode} {bs rest : List Byte} {o : Operand} (h : takeOperand m bs = some (o, rest)) :
    o.mode = m ∧ bs = o.bytes ++ rest := by
  unfold takeOperand at h
  split at h <;> simp_all
  all_goals obtain ⟨rfl, rfl⟩ := h; simp [Operand.mode, Operand.bytes]

/-- The mnemonic and the operand of an instruction make that instruction. -/
theorem assemble_self (i : Instr) : assemble i.mnemonic i.operand = some i := by cases i <;> rfl

theorem assemble_parts (m : Mnemonic) (o : Operand) :
    (assemble m o).map (fun i => (i.mnemonic, i.operand)) = (assemble m o).map fun _ => (m, o) := by
  cases m <;> cases o <;> rfl

/-- Whatever a mnemonic and an operand make has them. -/
theorem assemble_some {m : Mnemonic} {o : Operand} {i : Instr} (h : assemble m o = some i) :
    i.mnemonic = m ∧ i.operand = o := by
  have := assemble_parts m o
  rw [h] at this
  simpa using this

/-- A mnemonic and an operand make an instruction exactly for the pairs of R86. -/
theorem assemble_isSome (m : Mnemonic) (o : Operand) : (assemble m o).isSome = validPair m o.mode := by
  cases m <;> cases o <;> rfl

theorem validPair_self (i : Instr) : validPair i.mnemonic i.operand.mode = true := by
  rw [← assemble_isSome, assemble_self]; rfl

/-- In a table that passes R58 every row is a well-formed row. -/
theorem OpTable.wf_row {t : OpTable} (h : t.wf = true) {d : Descriptor} (hd : d ∈ t) :
    d.length = d.mode.length ∧ validPair d.mnemonic d.mode = true ∧ (d.mnemonic = .brk → d.opcode = 0x00) := by
  simp only [OpTable.wf, Bool.and_eq_true, List.all_eq_true] at h
  obtain ⟨⟨hl, hp⟩, hb⟩ := h.2 d hd
  refine ⟨by simpa [Descriptor.lengthOk] using hl, hp, fun hm => ?_⟩
  simpa [Descriptor.brkOk, hm] using hb

theorem OpTable.lookup_some {t : OpTable} {op : Byte} {d : Descriptor} (h : t.lookup op = some d) :
    d ∈ t ∧ d.opcode = op := by
  unfold OpTable.lookup at h
  exact ⟨List.mem_of_find?_eq_some h, by simpa using List.find?_some h⟩

/-- In a table whose opcodes are unique, the row of an opcode is the one that is found. -/
theorem OpTable.lookup_row {t : OpTable} (h : t.opcodesUnique = true) {d : Descriptor} (hd : d ∈ t) :
    t.lookup d.opcode = some d := by
  simp only [OpTable.opcodesUnique, decide_eq_true_eq] at h
  unfold OpTable.lookup
  induction t with
  | nil => simp at hd
  | cons e t ih =>
    simp only [List.map_cons, List.nodup_cons] at h
    rcases List.mem_cons.mp hd with rfl | hd
    · simp
    · have hne : e.opcode ≠ d.opcode := fun he => h.1 (List.mem_map.mpr ⟨d, hd, he.symm⟩)
      simpa [hne] using ih hd h.2

end Sys2Proof
end

