-- ==== Sys2Proof/Laws/State.lean ====
section
/-! SUPPORT. What each named update of the state leaves of every field: one lemma a field. -/
namespace Sys2Proof.Machine

section WriteByte
variable (s : State) (ad : Word) (v : Byte)

@[simp] theorem State.writeByte_a : (s.writeByte ad v).a = s.a := rfl
@[simp] theorem State.writeByte_x : (s.writeByte ad v).x = s.x := rfl
@[simp] theorem State.writeByte_y : (s.writeByte ad v).y = s.y := rfl
@[simp] theorem State.writeByte_p : (s.writeByte ad v).p = s.p := rfl
@[simp] theorem State.writeByte_pc : (s.writeByte ad v).pc = s.pc := rfl
@[simp] theorem State.writeByte_mem : (s.writeByte ad v).mem = Memory.set s.mem ad.toNat v := rfl
@[simp] theorem State.writeByte_rs : (s.writeByte ad v).rs = s.rs := rfl
@[simp] theorem State.writeByte_hc : (s.writeByte ad v).hc = s.hc := rfl
@[simp] theorem State.writeByte_pbd : (s.writeByte ad v).pbd = s.pbd := rfl
@[simp] theorem State.writeByte_redirected : (s.writeByte ad v).redirected = s.redirected := rfl

end WriteByte

section SetFlag
variable (s : State) (f : Flag)

@[simp] theorem State.setFlag_a : (s.setFlag f).a = s.a := rfl
@[simp] theorem State.setFlag_x : (s.setFlag f).x = s.x := rfl
@[simp] theorem State.setFlag_y : (s.setFlag f).y = s.y := rfl
@[simp] theorem State.setFlag_p : (s.setFlag f).p = s.p ||| f.mask := rfl
@[simp] theorem State.setFlag_pc : (s.setFlag f).pc = s.pc := rfl
@[simp] theorem State.setFlag_mem : (s.setFlag f).mem = s.mem := rfl
@[simp] theorem State.setFlag_rs : (s.setFlag f).rs = s.rs := rfl
@[simp] theorem State.setFlag_hc : (s.setFlag f).hc = s.hc := rfl
@[simp] theorem State.setFlag_pbd : (s.setFlag f).pbd = s.pbd := rfl
@[simp] theorem State.setFlag_redirected : (s.setFlag f).redirected = s.redirected := rfl

end SetFlag

section ClearFlag
variable (s : State) (f : Flag)

@[simp] theorem State.clearFlag_a : (s.clearFlag f).a = s.a := rfl
@[simp] theorem State.clearFlag_x : (s.clearFlag f).x = s.x := rfl
@[simp] theorem State.clearFlag_y : (s.clearFlag f).y = s.y := rfl
@[simp] theorem State.clearFlag_p : (s.clearFlag f).p = s.p &&& ~~~f.mask := rfl
@[simp] theorem State.clearFlag_pc : (s.clearFlag f).pc = s.pc := rfl
@[simp] theorem State.clearFlag_mem : (s.clearFlag f).mem = s.mem := rfl
@[simp] theorem State.clearFlag_rs : (s.clearFlag f).rs = s.rs := rfl
@[simp] theorem State.clearFlag_hc : (s.clearFlag f).hc = s.hc := rfl
@[simp] theorem State.clearFlag_pbd : (s.clearFlag f).pbd = s.pbd := rfl
@[simp] theorem State.clearFlag_redirected : (s.clearFlag f).redirected = s.redirected := rfl

end ClearFlag

section Raise
variable (s : State) (c : HaltCause) (a0 : Word)

@[simp] theorem State.raise_a : (s.raise c a0).a = s.a := rfl
@[simp] theorem State.raise_x : (s.raise c a0).x = s.x := rfl
@[simp] theorem State.raise_y : (s.raise c a0).y = s.y := rfl
@[simp] theorem State.raise_p : (s.raise c a0).p = s.p := rfl
@[simp] theorem State.raise_pc : (s.raise c a0).pc = a0 := rfl
@[simp] theorem State.raise_mem : (s.raise c a0).mem = s.mem := rfl
@[simp] theorem State.raise_rs : (s.raise c a0).rs = .halted := rfl
@[simp] theorem State.raise_hc : (s.raise c a0).hc = c := rfl
@[simp] theorem State.raise_pbd : (s.raise c a0).pbd = s.pbd := rfl
@[simp] theorem State.raise_redirected : (s.raise c a0).redirected = s.redirected := rfl

end Raise

section HaltBrk
variable (s : State)

@[simp] theorem State.haltBrk_a : (s.haltBrk).a = s.a := rfl
@[simp] theorem State.haltBrk_x : (s.haltBrk).x = s.x := rfl
@[simp] theorem State.haltBrk_y : (s.haltBrk).y = s.y := rfl
@[simp] theorem State.haltBrk_p : (s.haltBrk).p = s.p := rfl
@[simp] theorem State.haltBrk_pc : (s.haltBrk).pc = s.pc := rfl
@[simp] theorem State.haltBrk_mem : (s.haltBrk).mem = s.mem := rfl
@[simp] theorem State.haltBrk_rs : (s.haltBrk).rs = .halted := rfl
@[simp] theorem State.haltBrk_hc : (s.haltBrk).hc = .brk := rfl
@[simp] theorem State.haltBrk_pbd : (s.haltBrk).pbd = s.pbd := rfl
@[simp] theorem State.haltBrk_redirected : (s.haltBrk).redirected = s.redirected := rfl

end HaltBrk

section BeginExecution
variable (s : State)

@[simp] theorem State.beginExecution_a : (s.beginExecution).a = s.a := rfl
@[simp] theorem State.beginExecution_x : (s.beginExecution).x = s.x := rfl
@[simp] theorem State.beginExecution_y : (s.beginExecution).y = s.y := rfl
@[simp] theorem State.beginExecution_p : (s.beginExecution).p = s.p := rfl
@[simp] theorem State.beginExecution_pc : (s.beginExecution).pc = s.pc + 1 := rfl
@[simp] theorem State.beginExecution_mem : (s.beginExecution).mem = s.mem := rfl
@[simp] theorem State.beginExecution_rs : (s.beginExecution).rs = s.rs := rfl
@[simp] theorem State.beginExecution_hc : (s.beginExecution).hc = s.hc := rfl
@[simp] theorem State.beginExecution_pbd : (s.beginExecution).pbd = some (s.pc + 1) := rfl
@[simp] theorem State.beginExecution_redirected : (s.beginExecution).redirected = false := rfl

end BeginExecution

section EndStep
variable (s : State)

@[simp] theorem State.endStep_a : (s.endStep).a = s.a := rfl
@[simp] theorem State.endStep_x : (s.endStep).x = s.x := rfl
@[simp] theorem State.endStep_y : (s.endStep).y = s.y := rfl
@[simp] theorem State.endStep_p : (s.endStep).p = s.p := rfl
@[simp] theorem State.endStep_pc : (s.endStep).pc = s.pc := rfl
@[simp] theorem State.endStep_mem : (s.endStep).mem = s.mem := rfl
@[simp] theorem State.endStep_rs : (s.endStep).rs = s.rs := rfl
@[simp] theorem State.endStep_hc : (s.endStep).hc = s.hc := rfl
@[simp] theorem State.endStep_pbd : (s.endStep).pbd = none := rfl
@[simp] theorem State.endStep_redirected : (s.endStep).redirected = false := rfl

end EndStep

section WriteFlag
variable (s : State) (f : Flag) (b : Bool)

@[simp] theorem State.writeFlag_a : (s.writeFlag f b).a = s.a := by cases b <;> rfl
@[simp] theorem State.writeFlag_x : (s.writeFlag f b).x = s.x := by cases b <;> rfl
@[simp] theorem State.writeFlag_y : (s.writeFlag f b).y = s.y := by cases b <;> rfl
@[simp] theorem State.writeFlag_pc : (s.writeFlag f b).pc = s.pc := by cases b <;> rfl
@[simp] theorem State.writeFlag_mem : (s.writeFlag f b).mem = s.mem := by cases b <;> rfl
@[simp] theorem State.writeFlag_rs : (s.writeFlag f b).rs = s.rs := by cases b <;> rfl
@[simp] theorem State.writeFlag_hc : (s.writeFlag f b).hc = s.hc := by cases b <;> rfl
@[simp] theorem State.writeFlag_pbd : (s.writeFlag f b).pbd = s.pbd := by cases b <;> rfl
@[simp] theorem State.writeFlag_redirected : (s.writeFlag f b).redirected = s.redirected := by cases b <;> rfl

end WriteFlag

section SetZN
variable (s : State) (v : Byte)

@[simp] theorem State.setZN_a : (s.setZN v).a = s.a := by simp [State.setZN]
@[simp] theorem State.setZN_x : (s.setZN v).x = s.x := by simp [State.setZN]
@[simp] theorem State.setZN_y : (s.setZN v).y = s.y := by simp [State.setZN]
@[simp] theorem State.setZN_pc : (s.setZN v).pc = s.pc := by simp [State.setZN]
@[simp] theorem State.setZN_mem : (s.setZN v).mem = s.mem := by simp [State.setZN]
@[simp] theorem State.setZN_rs : (s.setZN v).rs = s.rs := by simp [State.setZN]
@[simp] theorem State.setZN_hc : (s.setZN v).hc = s.hc := by simp [State.setZN]
@[simp] theorem State.setZN_pbd : (s.setZN v).pbd = s.pbd := by simp [State.setZN]
@[simp] theorem State.setZN_redirected : (s.setZN v).redirected = s.redirected := by simp [State.setZN]

end SetZN

section SetShiftFlags
variable (s : State) (v r : Byte)

@[simp] theorem State.setShiftFlags_a : (s.setShiftFlags v r).a = s.a := by simp [State.setShiftFlags]
@[simp] theorem State.setShiftFlags_x : (s.setShiftFlags v r).x = s.x := by simp [State.setShiftFlags]
@[simp] theorem State.setShiftFlags_y : (s.setShiftFlags v r).y = s.y := by simp [State.setShiftFlags]
@[simp] theorem State.setShiftFlags_pc : (s.setShiftFlags v r).pc = s.pc := by simp [State.setShiftFlags]
@[simp] theorem State.setShiftFlags_mem : (s.setShiftFlags v r).mem = s.mem := by simp [State.setShiftFlags]
@[simp] theorem State.setShiftFlags_rs : (s.setShiftFlags v r).rs = s.rs := by simp [State.setShiftFlags]
@[simp] theorem State.setShiftFlags_hc : (s.setShiftFlags v r).hc = s.hc := by simp [State.setShiftFlags]
@[simp] theorem State.setShiftFlags_pbd : (s.setShiftFlags v r).pbd = s.pbd := by simp [State.setShiftFlags]
@[simp] theorem State.setShiftFlags_redirected : (s.setShiftFlags v r).redirected = s.redirected := by simp [State.setShiftFlags]

end SetShiftFlags

section SetBitFlags
variable (s : State) (v : Byte)

@[simp] theorem State.setBitFlags_a : (s.setBitFlags v).a = s.a := by simp [State.setBitFlags]
@[simp] theorem State.setBitFlags_x : (s.setBitFlags v).x = s.x := by simp [State.setBitFlags]
@[simp] theorem State.setBitFlags_y : (s.setBitFlags v).y = s.y := by simp [State.setBitFlags]
@[simp] theorem State.setBitFlags_pc : (s.setBitFlags v).pc = s.pc := by simp [State.setBitFlags]
@[simp] theorem State.setBitFlags_mem : (s.setBitFlags v).mem = s.mem := by simp [State.setBitFlags]
@[simp] theorem State.setBitFlags_rs : (s.setBitFlags v).rs = s.rs := by simp [State.setBitFlags]
@[simp] theorem State.setBitFlags_hc : (s.setBitFlags v).hc = s.hc := by simp [State.setBitFlags]
@[simp] theorem State.setBitFlags_pbd : (s.setBitFlags v).pbd = s.pbd := by simp [State.setBitFlags]
@[simp] theorem State.setBitFlags_redirected : (s.setBitFlags v).redirected = s.redirected := by simp [State.setBitFlags]

end SetBitFlags

end Sys2Proof.Machine
end

