-- ==== Sys2Proof/Laws/Flags.lean ====
section
/-! SUPPORT. The status byte bit by bit: what each way of writing flags leaves of each bit of `P` (R14 to R18). -/
namespace Sys2Proof.Machine

/-- The bit of `P` a flag stands at (R14). -/
def Flag.bit : Flag → Nat
  | .carry => 0
  | .zero => 1
  | .overflow => 6
  | .negative => 7

theorem Flag.mask_getLsbD (f : Flag) (n : Nat) : f.mask.getLsbD n = decide (n = f.bit) := by
  by_cases h : n < 8
  · have : n = 0 ∨ n = 1 ∨ n = 2 ∨ n = 3 ∨ n = 4 ∨ n = 5 ∨ n = 6 ∨ n = 7 := by omega
    rcases this with rfl | rfl | rfl | rfl | rfl | rfl | rfl | rfl <;> cases f <;> rfl
  · have hn : n ≠ f.bit := by cases f <;> simp [Flag.bit] <;> omega
    simp [BitVec.getLsbD_of_ge _ _ (Nat.le_of_not_lt h), hn]

theorem State.writeFlag_bit (s : State) (f : Flag) (b : Bool) (n : Nat) :
    (s.writeFlag f b).p.getLsbD n = if n = f.bit then b else s.p.getLsbD n := by
  by_cases h : n < 8
  · cases b <;> by_cases hn : n = f.bit <;>
      simp only [State.writeFlag, Bool.false_eq_true, if_true, if_false, State.setFlag_p, State.clearFlag_p,
        BitVec.getLsbD_or, BitVec.getLsbD_and, BitVec.getLsbD_not, Flag.mask_getLsbD, hn, decide_true, decide_false,
        Bool.or_true, Bool.or_false, Bool.not_true, Bool.not_false, Bool.and_true, Bool.and_false, h]
  · have hn : n ≠ f.bit := by cases f <;> simp [Flag.bit] <;> omega
    simp [BitVec.getLsbD_of_ge _ _ (Nat.le_of_not_lt h), hn]

/-- Testing a flag reads its bit (R15). -/
theorem State.testFlag_eq (s : State) (f : Flag) : s.testFlag f = s.p.getLsbD f.bit := by
  have h : ∀ (p : Byte) (f : Flag), (p &&& f.mask != 0) = p.getLsbD f.bit := by
    intro p f; revert p; cases f <;> decide
  exact h s.p f

theorem State.setZN_bit (s : State) (v : Byte) (n : Nat) :
    (s.setZN v).p.getLsbD n = if n = 7 then v.getLsbD 7 else if n = 1 then v == 0 else s.p.getLsbD n := by
  simp only [State.setZN, State.writeFlag_bit]; rfl

theorem State.setShiftFlags_bit (s : State) (v r : Byte) (n : Nat) :
    (s.setShiftFlags v r).p.getLsbD n =
      if n = 7 then r.getLsbD 7 else if n = 1 then r == 0 else if n = 0 then v.getLsbD 7 else s.p.getLsbD n := by
  simp only [State.setShiftFlags, State.setZN_bit, State.writeFlag_bit]; rfl

theorem State.setBitFlags_bit (s : State) (v : Byte) (n : Nat) :
    (s.setBitFlags v).p.getLsbD n =
      if n = 7 then v.getLsbD 7 else if n = 6 then v.getLsbD 6 else if n = 1 then s.a &&& v == 0
      else s.p.getLsbD n := by
  simp only [State.setBitFlags, State.writeFlag_bit]; rfl

end Sys2Proof.Machine
end

