-- ==== Sys2Proof/Laws/Memory.lean ====
section
/-! SUPPORT. Memory: a read after a write, and the canonical form that every write keeps. The first hold of any list,
canonical or not. -/
namespace Sys2Proof.Machine

@[simp] theorem Memory.get_nil (k : Nat) : Memory.get [] k = Memory.blank := rfl

theorem Memory.get_erase (m : Memory) (k j : Nat) :
    Memory.get (Memory.erase m k) j = if j = k then Memory.blank else Memory.get m j := by
  induction m with
  | nil => simp [Memory.erase]
  | cons c m ih =>
    simp only [Memory.erase, List.filter_cons] at ih ⊢
    by_cases hc : c.1 = k <;> by_cases hj : j = k <;> simp_all [Memory.get]
    intro h; exact absurd h.symm hj

theorem Memory.get_insert (c : Host.Cell) (m : Memory) (j : Nat) (h : ∀ d ∈ m, d.1 ≠ c.1) :
    Memory.get (Memory.insert c m) j = if j = c.1 then c.2 else Memory.get m j := by
  induction m with
  | nil => simp [Memory.insert, Memory.get, eq_comm]
  | cons d m ih =>
    have hd : d.1 ≠ c.1 := h d (by simp)
    have ih := ih fun e he => h e (by simp [he])
    simp only [Memory.insert]
    split
    · simp [Memory.get, eq_comm]
    · simp only [Memory.get, ih]
      by_cases hj : d.1 = j
      · have : j ≠ c.1 := hj ▸ hd
        simp [hj, this]
      · simp [hj]

theorem Memory.erase_ne (m : Memory) (k : Nat) : ∀ d ∈ Memory.erase m k, d.1 ≠ k := by
  intro d hd
  simpa using (List.mem_filter.mp hd).2

/-- A read after a write: the byte written at its address, the old byte elsewhere. -/
theorem Memory.get_set (m : Memory) (k j : Nat) (v : Byte) :
    Memory.get (Memory.set m k v) j = if j = k then v else Memory.get m j := by
  unfold Memory.set
  split
  · next hv => simp [Memory.get_erase, hv]
  · rw [Memory.get_insert _ _ _ (Memory.erase_ne m k), Memory.get_erase]
    split <;> rfl

theorem Memory.wf_iff (m : Memory) :
    Memory.wf m = true ↔
      m.Pairwise (fun c d => c.1 < d.1) ∧ ∀ c ∈ m, c.1 < 65536 ∧ c.2 ≠ Memory.blank := by
  simp [Memory.wf]

@[simp] theorem Memory.wf_nil : Memory.wf [] = true := rfl

theorem Memory.wf_erase {m : Memory} (k : Nat) (h : Memory.wf m = true) : Memory.wf (Memory.erase m k) = true := by
  rw [Memory.wf_iff] at h ⊢
  exact ⟨h.1.filter _, fun c hc => h.2 c (List.mem_filter.mp hc).1⟩

theorem Memory.mem_insert {c d : Host.Cell} {m : Memory} : d ∈ Memory.insert c m ↔ d = c ∨ d ∈ m := by
  induction m with
  | nil => simp [Memory.insert]
  | cons e m ih =>
    simp only [Memory.insert]
    split
    · simp
    · simp [ih, or_left_comm]

theorem Memory.wf_insert {c : Host.Cell} {m : Memory} (h : Memory.wf m = true) (hc : c.1 < 65536)
    (hv : c.2 ≠ Memory.blank) (hne : ∀ d ∈ m, d.1 ≠ c.1) : Memory.wf (Memory.insert c m) = true := by
  rw [Memory.wf_iff] at h ⊢
  refine ⟨?_, fun d hd => ?_⟩
  · obtain ⟨hp, -⟩ := h
    induction m with
    | nil => simp [Memory.insert]
    | cons e m ih =>
      have he := List.pairwise_cons.mp hp
      simp only [Memory.insert]
      split
      · next hlt =>
        refine List.pairwise_cons.mpr ⟨fun d hd => ?_, hp⟩
        rcases List.mem_cons.mp hd with rfl | hd
        · exact hlt
        · exact lt_trans hlt (he.1 d hd)
      · next hge =>
        refine List.pairwise_cons.mpr ⟨fun d hd => ?_, ih (fun d hd => hne d (by simp [hd])) he.2⟩
        rcases Memory.mem_insert.mp hd with rfl | hd
        · have := hne e (by simp)
          omega
        · exact he.1 d hd
  · rcases Memory.mem_insert.mp hd with rfl | hd
    · exact ⟨hc, hv⟩
    · exact h.2 d hd

/-- Every write keeps the canonical form. -/
theorem Memory.wf_set {m : Memory} {k : Nat} (v : Byte) (h : Memory.wf m = true) (hk : k < 65536) :
    Memory.wf (Memory.set m k v) = true := by
  unfold Memory.set
  split
  · exact Memory.wf_erase k h
  · next hv => exact Memory.wf_insert (Memory.wf_erase k h) hk hv (Memory.erase_ne m k)

theorem State.wf_writeByte {s : State} (ad : Word) (v : Byte) (h : Memory.wf s.mem = true) :
    Memory.wf (s.writeByte ad v).mem = true := Memory.wf_set v h ad.isLt

theorem State.wf_writeWord {s : State} (ad v : Word) (h : Memory.wf s.mem = true) :
    Memory.wf (s.writeWord ad v).mem = true := State.wf_writeByte _ _ (State.wf_writeByte _ _ h)

theorem State.wf_writeBytes {s : State} (ad : Word) (bs : List Byte) (h : Memory.wf s.mem = true) :
    Memory.wf (s.writeBytes ad bs).mem = true := by
  induction bs generalizing s ad with
  | nil => exact h
  | cons b bs ih => exact ih (ad + 1) (State.wf_writeByte ad b h)

/-- A byte read after a byte written. -/
theorem State.readByte_writeByte (s : State) (ad b : Word) (v : Byte) :
    (s.writeByte ad v).readByte b = if b = ad then v else s.readByte b := by
  simp [State.readByte, Memory.get_set, BitVec.toNat_inj]

@[simp] theorem State.readByte_writeByte_self (s : State) (ad : Word) (v : Byte) :
    (s.writeByte ad v).readByte ad = v := by simp [State.readByte_writeByte]

theorem State.readByte_writeByte_ne {s : State} {ad b : Word} {v : Byte} (h : b ≠ ad) :
    (s.writeByte ad v).readByte b = s.readByte b := by simp [State.readByte_writeByte, h]

/-- A read sees only the memory. -/
theorem State.readByte_congr {s t : State} (h : t.mem = s.mem) (b : Word) : t.readByte b = s.readByte b := by
  simp [State.readByte, h]

@[simp] theorem State.readByte_writeFlag (s : State) (f : Flag) (v : Bool) (b : Word) :
    (s.writeFlag f v).readByte b = s.readByte b := State.readByte_congr (by simp) b

@[simp] theorem State.readByte_setZN (s : State) (v : Byte) (b : Word) :
    (s.setZN v).readByte b = s.readByte b := State.readByte_congr (by simp) b

@[simp] theorem State.readByte_setShiftFlags (s : State) (v r : Byte) (b : Word) :
    (s.setShiftFlags v r).readByte b = s.readByte b := State.readByte_congr (by simp) b

@[simp] theorem State.readByte_setBitFlags (s : State) (v : Byte) (b : Word) :
    (s.setBitFlags v).readByte b = s.readByte b := State.readByte_congr (by simp) b

@[simp] theorem State.readByte_raise (s : State) (c : HaltCause) (a0 b : Word) :
    (s.raise c a0).readByte b = s.readByte b := rfl

@[simp] theorem State.readByte_haltBrk (s : State) (b : Word) : s.haltBrk.readByte b = s.readByte b := rfl

@[simp] theorem State.readByte_beginExecution (s : State) (b : Word) :
    s.beginExecution.readByte b = s.readByte b := rfl

@[simp] theorem State.readByte_endStep (s : State) (b : Word) : s.endStep.readByte b = s.readByte b := rfl

end Sys2Proof.Machine
end

