-- ==== Sys2Proof/Laws/Exec.lean ====
section
/-! SUPPORT. What the shared operations can do, said once: the resolver, the two ways an instruction asks for its operand,
the advance, and `exec` as one rule per mnemonic. -/
namespace Sys2Proof.Machine

/-- `exec` runs the rule of the instruction's mnemonic with the instruction's operand (R94). -/
theorem exec_eq_execute (i : Instr) (s : State) : exec i s = .next (execute i.mnemonic i.operand s) := by
  cases i <;> rfl

/-! ### The resolver -/

/-- An operand form has an effective address unless it is Accumulator or Implicit (R70, R81, R82). -/
theorem State.effectiveAddress_isSome (s : State) (o : Operand) :
    (s.effectiveAddress o).isSome = (o.mode != .accumulator && o.mode != .implicit) := by cases o <;> rfl

/-- An operand form has a value unless it is Implicit (R82, R83). -/
theorem State.operandValue_isSome (s : State) (o : Operand) :
    (s.operandValue o).isSome = (o.mode != .implicit) := by cases o <;> rfl

@[simp] theorem State.operandAt_mode (s : State) (m : Mode) : (s.operandAt m).mode = m := by cases m <;> rfl

/-- `EA` reads `X`, `Y`, `PC` and memory and nothing else (R70). -/
theorem State.effectiveAddress_congr {s t : State} (hx : t.x = s.x) (hy : t.y = s.y) (hpc : t.pc = s.pc)
    (hm : t.mem = s.mem) (o : Operand) : t.effectiveAddress o = s.effectiveAddress o := by
  cases o <;> simp [State.effectiveAddress, State.readZeroPageWord, hx, hy, hpc, State.readByte_congr hm]

theorem State.withOperand_of_some {s : State} {o : Operand} {v : Byte} (h : s.operandValue o = some v)
    (k : Byte → State) : s.withOperand o k = k v := by simp [State.withOperand, h]

theorem State.withAddress_of_some {s : State} {o : Operand} {ea : Word} (h : s.effectiveAddress o = some ea)
    (k : Word → State) : s.withAddress o k = k ea := by simp [State.withAddress, h]

/-- Asking for an operand value either gets one, or raises the fatal condition (R83, R202). -/
theorem State.withOperand_cases (s : State) (o : Operand) (k : Byte → State) :
    (∃ v, s.operandValue o = some v ∧ s.withOperand o k = k v) ∨
    (o.mode = .implicit ∧ s.withOperand o k = s.raise (.unsupportedAddressingMode .implicit) s.opcodeAddress) := by
  cases o <;> first
    | exact .inr ⟨rfl, rfl⟩
    | exact .inl ⟨_, rfl, rfl⟩

/-- Asking for an effective address either gets one, or raises the fatal condition (R81, R82, R202). -/
theorem State.withAddress_cases (s : State) (o : Operand) (k : Word → State) :
    (∃ ea, s.effectiveAddress o = some ea ∧ s.withAddress o k = k ea) ∨
    ((o.mode = .implicit ∨ o.mode = .accumulator) ∧
      s.withAddress o k = s.raise (.unsupportedAddressingMode o.mode) s.opcodeAddress) := by
  cases o <;> first
    | exact .inr ⟨.inl rfl, rfl⟩
    | exact .inr ⟨.inr rfl, rfl⟩
    | exact .inl ⟨_, rfl, rfl⟩

/-! ### The shared operations -/

theorem andOp_cases (o : Operand) (s : State) :
    (∃ v, s.operandValue o = some v ∧ andOp o s = { s with a := s.a &&& v }.setZN (s.a &&& v)) ∨
    (o.mode = .implicit ∧ andOp o s = s.raise (.unsupportedAddressingMode .implicit) s.opcodeAddress) :=
  s.withOperand_cases o _

theorem ldaOp_cases (o : Operand) (s : State) :
    (∃ v, s.operandValue o = some v ∧ ldaOp o s = { s with a := v }.setZN v) ∨
    (o.mode = .implicit ∧ ldaOp o s = s.raise (.unsupportedAddressingMode .implicit) s.opcodeAddress) :=
  s.withOperand_cases o _

theorem ldxOp_cases (o : Operand) (s : State) :
    (∃ v, s.operandValue o = some v ∧ ldxOp o s = { s with x := v }.setZN v) ∨
    (o.mode = .implicit ∧ ldxOp o s = s.raise (.unsupportedAddressingMode .implicit) s.opcodeAddress) :=
  s.withOperand_cases o _

theorem ldyOp_cases (o : Operand) (s : State) :
    (∃ v, s.operandValue o = some v ∧ ldyOp o s = { s with y := v }.setZN v) ∨
    (o.mode = .implicit ∧ ldyOp o s = s.raise (.unsupportedAddressingMode .implicit) s.opcodeAddress) :=
  s.withOperand_cases o _

theorem staOp_cases (o : Operand) (s : State) :
    (∃ ea, s.effectiveAddress o = some ea ∧ staOp o s = s.writeByte ea s.a) ∨
    ((o.mode = .implicit ∨ o.mode = .accumulator) ∧
      staOp o s = s.raise (.unsupportedAddressingMode o.mode) s.opcodeAddress) :=
  s.withAddress_cases o _

theorem bitOp_cases (o : Operand) (s : State) :
    (∃ ea, s.effectiveAddress o = some ea ∧ bitOp o s = s.setBitFlags (s.readByte ea)) ∨
    ((o.mode = .implicit ∨ o.mode = .accumulator) ∧
      bitOp o s = s.raise (.unsupportedAddressingMode o.mode) s.opcodeAddress) :=
  s.withAddress_cases o _

theorem aslOp_cases (o : Operand) (s : State) :
    (o = .accumulator ∧ aslOp o s = { s with a := shiftLeft s.a }.setShiftFlags s.a (shiftLeft s.a)) ∨
    (∃ ea, s.effectiveAddress o = some ea ∧ aslOp o s =
      (s.setShiftFlags (s.readByte ea) (shiftLeft (s.readByte ea))).writeByte ea (shiftLeft (s.readByte ea))) ∨
    (o.mode = .implicit ∧ aslOp o s = s.raise (.unsupportedAddressingMode .implicit) s.opcodeAddress) := by
  cases o <;> first
    | exact .inl ⟨rfl, rfl⟩
    | exact .inr (.inr ⟨rfl, rfl⟩)
    | exact .inr (.inl ⟨_, rfl, rfl⟩)

theorem branchOp_cases (c : Bool) (b1 : Byte) (s : State) :
    (c = true ∧ branchOp c b1 s = { s with pc := branchTarget (s.pc + 1) b1, redirected := true }) ∨
    (c = false ∧ branchOp c b1 s = s) := by
  cases c
  · exact .inr ⟨rfl, rfl⟩
  · exact .inl ⟨rfl, rfl⟩

/-! ### The advance -/

section Advance
variable (s : State) (d : RedirectDetect) (n : Nat)

@[simp] theorem State.advance_a : (s.advance d n).a = s.a := by unfold State.advance; split <;> rfl
@[simp] theorem State.advance_x : (s.advance d n).x = s.x := by unfold State.advance; split <;> rfl
@[simp] theorem State.advance_y : (s.advance d n).y = s.y := by unfold State.advance; split <;> rfl
@[simp] theorem State.advance_p : (s.advance d n).p = s.p := by unfold State.advance; split <;> rfl
@[simp] theorem State.advance_mem : (s.advance d n).mem = s.mem := by unfold State.advance; split <;> rfl
@[simp] theorem State.advance_rs : (s.advance d n).rs = s.rs := by unfold State.advance; split <;> rfl
@[simp] theorem State.advance_hc : (s.advance d n).hc = s.hc := by unfold State.advance; split <;> rfl
@[simp] theorem State.advance_pbd : (s.advance d n).pbd = none := by unfold State.advance; split <;> rfl
@[simp] theorem State.advance_redirected : (s.advance d n).redirected = false := by
  unfold State.advance; split <;> rfl

@[simp] theorem State.readByte_advance (b : Word) : (s.advance d n).readByte b = s.readByte b :=
  State.readByte_congr (by simp) b

/-- A halted core, and one whose instruction redirected, keep their `PC`; any other is moved past the operand bytes
(R95, R98). -/
theorem State.advance_pc :
    (s.advance d n).pc =
      if s.rs = .halted ∨ s.hasRedirected d = true then s.pc else s.pc + (BitVec.ofNat 16 n - 1) := by
  unfold State.advance
  by_cases h : s.rs = .halted <;> by_cases h' : s.hasRedirected d = true <;> simp [h, h']

end Advance

end Sys2Proof.Machine
end

