-- ==== Sys2Proof/Laws/PerInstr.lean ====
section
/-! SUPPORT. A statement per instruction, as syntax: its encoding is as long as its addressing mode says (R52), the default
table has a row for it, and its mnemonic and operand give it back. -/
namespace Sys2Proof.Laws.Encoding

/-- What is proved of every instruction. -/
def Statement (i : Instr) : Prop :=
  (encode i).length = i.length ∧ i.wellFormed optable = true ∧ optable.lookup i.opcode =
    some ⟨i.opcode, i.mnemonic, i.operand.mode, i.length⟩ ∧ assemble i.mnemonic i.operand = some i

theorem andImmediate (b1 : Byte) : Statement (.andImmediate b1) := ⟨rfl, rfl, rfl, rfl⟩
theorem andZeroPage (b1 : Byte) : Statement (.andZeroPage b1) := ⟨rfl, rfl, rfl, rfl⟩
theorem andZeroPageX (b1 : Byte) : Statement (.andZeroPageX b1) := ⟨rfl, rfl, rfl, rfl⟩
theorem andAbsolute (w : Word) : Statement (.andAbsolute w) := ⟨rfl, rfl, rfl, rfl⟩
theorem andAbsoluteX (w : Word) : Statement (.andAbsoluteX w) := ⟨rfl, rfl, rfl, rfl⟩
theorem andAbsoluteY (w : Word) : Statement (.andAbsoluteY w) := ⟨rfl, rfl, rfl, rfl⟩
theorem andIndirectX (b1 : Byte) : Statement (.andIndirectX b1) := ⟨rfl, rfl, rfl, rfl⟩
theorem andIndirectY (b1 : Byte) : Statement (.andIndirectY b1) := ⟨rfl, rfl, rfl, rfl⟩
theorem aslAccumulator : Statement (.aslAccumulator) := ⟨rfl, rfl, rfl, rfl⟩
theorem aslZeroPage (b1 : Byte) : Statement (.aslZeroPage b1) := ⟨rfl, rfl, rfl, rfl⟩
theorem aslZeroPageX (b1 : Byte) : Statement (.aslZeroPageX b1) := ⟨rfl, rfl, rfl, rfl⟩
theorem aslAbsolute (w : Word) : Statement (.aslAbsolute w) := ⟨rfl, rfl, rfl, rfl⟩
theorem aslAbsoluteX (w : Word) : Statement (.aslAbsoluteX w) := ⟨rfl, rfl, rfl, rfl⟩
theorem bcc (b1 : Byte) : Statement (.bcc b1) := ⟨rfl, rfl, rfl, rfl⟩
theorem bcs (b1 : Byte) : Statement (.bcs b1) := ⟨rfl, rfl, rfl, rfl⟩
theorem beq (b1 : Byte) : Statement (.beq b1) := ⟨rfl, rfl, rfl, rfl⟩
theorem bitZeroPage (b1 : Byte) : Statement (.bitZeroPage b1) := ⟨rfl, rfl, rfl, rfl⟩
theorem bitAbsolute (w : Word) : Statement (.bitAbsolute w) := ⟨rfl, rfl, rfl, rfl⟩
theorem ldaImmediate (b1 : Byte) : Statement (.ldaImmediate b1) := ⟨rfl, rfl, rfl, rfl⟩
theorem ldaZeroPage (b1 : Byte) : Statement (.ldaZeroPage b1) := ⟨rfl, rfl, rfl, rfl⟩
theorem ldaZeroPageX (b1 : Byte) : Statement (.ldaZeroPageX b1) := ⟨rfl, rfl, rfl, rfl⟩
theorem ldaAbsolute (w : Word) : Statement (.ldaAbsolute w) := ⟨rfl, rfl, rfl, rfl⟩
theorem ldaAbsoluteX (w : Word) : Statement (.ldaAbsoluteX w) := ⟨rfl, rfl, rfl, rfl⟩
theorem ldaAbsoluteY (w : Word) : Statement (.ldaAbsoluteY w) := ⟨rfl, rfl, rfl, rfl⟩
theorem ldaIndirectX (b1 : Byte) : Statement (.ldaIndirectX b1) := ⟨rfl, rfl, rfl, rfl⟩
theorem ldaIndirectY (b1 : Byte) : Statement (.ldaIndirectY b1) := ⟨rfl, rfl, rfl, rfl⟩
theorem ldxImmediate (b1 : Byte) : Statement (.ldxImmediate b1) := ⟨rfl, rfl, rfl, rfl⟩
theorem ldxZeroPage (b1 : Byte) : Statement (.ldxZeroPage b1) := ⟨rfl, rfl, rfl, rfl⟩
theorem ldxZeroPageY (b1 : Byte) : Statement (.ldxZeroPageY b1) := ⟨rfl, rfl, rfl, rfl⟩
theorem ldxAbsolute (w : Word) : Statement (.ldxAbsolute w) := ⟨rfl, rfl, rfl, rfl⟩
theorem ldxAbsoluteY (w : Word) : Statement (.ldxAbsoluteY w) := ⟨rfl, rfl, rfl, rfl⟩
theorem ldyImmediate (b1 : Byte) : Statement (.ldyImmediate b1) := ⟨rfl, rfl, rfl, rfl⟩
theorem ldyZeroPage (b1 : Byte) : Statement (.ldyZeroPage b1) := ⟨rfl, rfl, rfl, rfl⟩
theorem ldyZeroPageX (b1 : Byte) : Statement (.ldyZeroPageX b1) := ⟨rfl, rfl, rfl, rfl⟩
theorem ldyAbsolute (w : Word) : Statement (.ldyAbsolute w) := ⟨rfl, rfl, rfl, rfl⟩
theorem ldyAbsoluteX (w : Word) : Statement (.ldyAbsoluteX w) := ⟨rfl, rfl, rfl, rfl⟩
theorem tax : Statement (.tax) := ⟨rfl, rfl, rfl, rfl⟩
theorem staZeroPage (b1 : Byte) : Statement (.staZeroPage b1) := ⟨rfl, rfl, rfl, rfl⟩
theorem staZeroPageX (b1 : Byte) : Statement (.staZeroPageX b1) := ⟨rfl, rfl, rfl, rfl⟩
theorem staAbsolute (w : Word) : Statement (.staAbsolute w) := ⟨rfl, rfl, rfl, rfl⟩
theorem staAbsoluteX (w : Word) : Statement (.staAbsoluteX w) := ⟨rfl, rfl, rfl, rfl⟩
theorem staAbsoluteY (w : Word) : Statement (.staAbsoluteY w) := ⟨rfl, rfl, rfl, rfl⟩
theorem staIndirectX (b1 : Byte) : Statement (.staIndirectX b1) := ⟨rfl, rfl, rfl, rfl⟩
theorem staIndirectY (b1 : Byte) : Statement (.staIndirectY b1) := ⟨rfl, rfl, rfl, rfl⟩
theorem inx : Statement (.inx) := ⟨rfl, rfl, rfl, rfl⟩
theorem brk : Statement (.brk) := ⟨rfl, rfl, rfl, rfl⟩

end Sys2Proof.Laws.Encoding
end

