-- ==== Sys2Proof/Laws/Step.lean ====
section
/-! SUPPORT. What a step can do, said once: the bytes fetched decode by the row of the opcode byte, with the operand read
after it, and a step that decodes is the rule of its mnemonic between the fetch and the advance. -/
namespace Sys2Proof.Machine

/-- The operand the decoder takes from the fetched bytes is the one the resolver reads at `PC` (log 9). -/
theorem takeOperand_fetch (s : State) (m : Mode) :
    ∃ rest, takeOperand m [s.readByte (s.pc + 1), s.readByte (s.pc + 2)] =
      some (s.beginExecution.operandAt m, rest) := by
  have h2 : s.beginExecution.readWord (s.pc + 1) = wordOf (s.readByte (s.pc + 2)) (s.readByte (s.pc + 1)) := by
    rw [State.readWord, BitVec.add_assoc]; rfl
  cases m <;> first
    | exact ⟨_, rfl⟩
    | exact ⟨[], by simp only [takeOperand, State.operandAt, State.beginExecution_pc, h2]⟩

/-- A byte that is no opcode is named by the decoder. -/
theorem decode_fetch_none {s : State} (h : optable.lookup (s.readByte s.pc) = none) :
    decode s.fetchBytes = .error (.unrecognizedOpcode (s.readByte s.pc)) := by
  simp only [State.fetchBytes, decode, decodeWith, h]

/-- In the default table a row and the bytes after it always make an instruction. -/
theorem decode_fetch_some {s : State} {d : Descriptor} (h : optable.lookup (s.readByte s.pc) = some d) :
    ∃ i rest, decode s.fetchBytes = .ok (i, rest) ∧ i.mnemonic = d.mnemonic ∧
      i.operand = s.beginExecution.operandAt d.mode ∧ i.length = d.length := by
  have rows : ∀ d ∈ optable, d.length = d.mode.length ∧ validPair d.mnemonic d.mode = true := by decide
  obtain ⟨hlen, hpair⟩ := rows d (OpTable.lookup_some h).1
  obtain ⟨rest, ht⟩ := takeOperand_fetch s d.mode
  obtain ⟨i, hi⟩ := Option.isSome_iff_exists.mp
    ((assemble_isSome d.mnemonic (s.beginExecution.operandAt d.mode)).trans
      ((congrArg _ (State.operandAt_mode _ _)).trans hpair))
  obtain ⟨hm, ho⟩ := assemble_some hi
  refine ⟨i, rest, ?_, hm, ho, ?_⟩
  · simp only [State.fetchBytes, decode, decodeWith, h, ht, hi]
  · rw [Instr.length, ho, State.operandAt_mode, hlen]

/-- A step whose bytes decode runs the rule of the mnemonic between the fetch and the advance. -/
theorem step_of_decode {s : State} {i : Instr} {rest : List Byte} (hr : s.rs = .running)
    (hd : decode s.fetchBytes = .ok (i, rest)) :
    step s = .next ((execute i.mnemonic i.operand s.beginExecution).advance redirectDetect i.length) := by
  simp only [step, cycle, hr, hd, exec_eq_execute, finish, if_true]

end Sys2Proof.Machine
end

