-- ==== Sys2Proof/Tests/Slice0.lean ====
section
/-! SUPPORT. The model's own tests. The expected values come from the spec: the vectors V<n>, E<n> and H<n> of
`spec/95_test_vectors.md`, the opcode table of `spec/30_encoding.md` R56, and the checks of R58. Then, for every statement
of `Obligations.lean` that has hypotheses, a state and operands that meet all of them. -/
namespace Sys2Proof.Tests
open Sys2Proof.Machine

/-- The state of a single-step vector: running at `pc` with the registers given, `code` at `pc`, then the memory bytes
listed; everything else 0x00 (`spec/95_test_vectors.md` section 1). -/
def vec (a x y p : Byte) (pc : Word) (code : List Byte) (mem : List (Word × Byte)) : State :=
  mem.foldl (fun s c => s.writeByte c.1 c.2) ({ State.reset with a := a, x := x, y := y, p := p, pc := pc }.writeBytes pc code)

/-- The registers a state holds, with the program counter. -/
def regs (s : State) : List Byte × Word := ([s.a, s.x, s.y, s.p], s.pc)

/-- The registers after one step that leaves the core running, with the bytes at the addresses asked for. -/
def after (s : State) (addrs : List Word) : Option ((List Byte × Word) × List Byte) :=
  match step s with
  | .next t => if t.rs = .running then some (regs t, addrs.map t.readByte) else none
  | _ => none

/-- The registers and the halt cause after one step that halts the core. -/
def haltAfter (s : State) : Option ((List Byte × Word) × HaltCause) :=
  match step s with
  | .next t => if t.rs = .halted then some (regs t, t.hc) else none
  | _ => none

/-! ### Decoding: words written out from the table of R56 -/

theorem test_decode_andImmediate : decode [0b00101001, 0b10000101] = .ok (.andImmediate 0x85, []) := by rfl
theorem test_decode_andZeroPage : decode [0b00100101, 0b10000101] = .ok (.andZeroPage 0x85, []) := by rfl
theorem test_decode_andZeroPageX : decode [0b00110101, 0b10000101] = .ok (.andZeroPageX 0x85, []) := by rfl
theorem test_decode_andAbsolute : decode [0b00101101, 0b00110100, 0b00010010] = .ok (.andAbsolute 0x1234, []) := by rfl
theorem test_decode_andAbsoluteX : decode [0b00111101, 0b00110100, 0b00010010] = .ok (.andAbsoluteX 0x1234, []) := by rfl
theorem test_decode_andAbsoluteY : decode [0b00111001, 0b00110100, 0b00010010] = .ok (.andAbsoluteY 0x1234, []) := by rfl
theorem test_decode_andIndirectX : decode [0b00100001, 0b10000101] = .ok (.andIndirectX 0x85, []) := by rfl
theorem test_decode_andIndirectY : decode [0b00110001, 0b10000101] = .ok (.andIndirectY 0x85, []) := by rfl
theorem test_decode_aslAccumulator : decode [0b00001010] = .ok (.aslAccumulator, []) := by rfl
theorem test_decode_aslZeroPage : decode [0b00000110, 0b10000101] = .ok (.aslZeroPage 0x85, []) := by rfl
theorem test_decode_aslZeroPageX : decode [0b00010110, 0b10000101] = .ok (.aslZeroPageX 0x85, []) := by rfl
theorem test_decode_aslAbsolute : decode [0b00001110, 0b00110100, 0b00010010] = .ok (.aslAbsolute 0x1234, []) := by rfl
theorem test_decode_aslAbsoluteX : decode [0b00011110, 0b00110100, 0b00010010] = .ok (.aslAbsoluteX 0x1234, []) := by rfl
theorem test_decode_bcc : decode [0b10010000, 0b10000101] = .ok (.bcc 0x85, []) := by rfl
theorem test_decode_bcs : decode [0b10110000, 0b10000101] = .ok (.bcs 0x85, []) := by rfl
theorem test_decode_beq : decode [0b11110000, 0b10000101] = .ok (.beq 0x85, []) := by rfl
theorem test_decode_bitZeroPage : decode [0b00100100, 0b10000101] = .ok (.bitZeroPage 0x85, []) := by rfl
theorem test_decode_bitAbsolute : decode [0b00101100, 0b00110100, 0b00010010] = .ok (.bitAbsolute 0x1234, []) := by rfl
theorem test_decode_ldaImmediate : decode [0b10101001, 0b10000101] = .ok (.ldaImmediate 0x85, []) := by rfl
theorem test_decode_ldaZeroPage : decode [0b10100101, 0b10000101] = .ok (.ldaZeroPage 0x85, []) := by rfl
theorem test_decode_ldaZeroPageX : decode [0b10110101, 0b10000101] = .ok (.ldaZeroPageX 0x85, []) := by rfl
theorem test_decode_ldaAbsolute : decode [0b10101101, 0b00110100, 0b00010010] = .ok (.ldaAbsolute 0x1234, []) := by rfl
theorem test_decode_ldaAbsoluteX : decode [0b10111101, 0b00110100, 0b00010010] = .ok (.ldaAbsoluteX 0x1234, []) := by rfl
theorem test_decode_ldaAbsoluteY : decode [0b10111001, 0b00110100, 0b00010010] = .ok (.ldaAbsoluteY 0x1234, []) := by rfl
theorem test_decode_ldaIndirectX : decode [0b10100001, 0b10000101] = .ok (.ldaIndirectX 0x85, []) := by rfl
theorem test_decode_ldaIndirectY : decode [0b10110001, 0b10000101] = .ok (.ldaIndirectY 0x85, []) := by rfl
theorem test_decode_ldxImmediate : decode [0b10100010, 0b10000101] = .ok (.ldxImmediate 0x85, []) := by rfl
theorem test_decode_ldxZeroPage : decode [0b10100110, 0b10000101] = .ok (.ldxZeroPage 0x85, []) := by rfl
theorem test_decode_ldxZeroPageY : decode [0b10110110, 0b10000101] = .ok (.ldxZeroPageY 0x85, []) := by rfl
theorem test_decode_ldxAbsolute : decode [0b10101110, 0b00110100, 0b00010010] = .ok (.ldxAbsolute 0x1234, []) := by rfl
theorem test_decode_ldxAbsoluteY : decode [0b10111110, 0b00110100, 0b00010010] = .ok (.ldxAbsoluteY 0x1234, []) := by rfl
theorem test_decode_ldyImmediate : decode [0b10100000, 0b10000101] = .ok (.ldyImmediate 0x85, []) := by rfl
theorem test_decode_ldyZeroPage : decode [0b10100100, 0b10000101] = .ok (.ldyZeroPage 0x85, []) := by rfl
theorem test_decode_ldyZeroPageX : decode [0b10110100, 0b10000101] = .ok (.ldyZeroPageX 0x85, []) := by rfl
theorem test_decode_ldyAbsolute : decode [0b10101100, 0b00110100, 0b00010010] = .ok (.ldyAbsolute 0x1234, []) := by rfl
theorem test_decode_ldyAbsoluteX : decode [0b10111100, 0b00110100, 0b00010010] = .ok (.ldyAbsoluteX 0x1234, []) := by rfl
theorem test_decode_tax : decode [0b10101010] = .ok (.tax, []) := by rfl
theorem test_decode_staZeroPage : decode [0b10000101, 0b10000101] = .ok (.staZeroPage 0x85, []) := by rfl
theorem test_decode_staZeroPageX : decode [0b10010101, 0b10000101] = .ok (.staZeroPageX 0x85, []) := by rfl
theorem test_decode_staAbsolute : decode [0b10001101, 0b00110100, 0b00010010] = .ok (.staAbsolute 0x1234, []) := by rfl
theorem test_decode_staAbsoluteX : decode [0b10011101, 0b00110100, 0b00010010] = .ok (.staAbsoluteX 0x1234, []) := by rfl
theorem test_decode_staAbsoluteY : decode [0b10011001, 0b00110100, 0b00010010] = .ok (.staAbsoluteY 0x1234, []) := by rfl
theorem test_decode_staIndirectX : decode [0b10000001, 0b10000101] = .ok (.staIndirectX 0x85, []) := by rfl
theorem test_decode_staIndirectY : decode [0b10010001, 0b10000101] = .ok (.staIndirectY 0x85, []) := by rfl
theorem test_decode_inx : decode [0b11101000] = .ok (.inx, []) := by rfl
theorem test_decode_brk : decode [0b00000000] = .ok (.brk, []) := by rfl

theorem test_decode_refuses_02 : decode [0x02, 0x00, 0x00] = .error (.unrecognizedOpcode 0x02) := by rfl
theorem test_decode_refuses_EA : decode [0xEA, 0x00, 0x00] = .error (.unrecognizedOpcode 0xEA) := by rfl
theorem test_decode_truncated : decode [0xAD, 0x00] = .error (.truncated 0xAD) := by rfl
theorem test_decode_nothing : decode [] = .error .noBytes := by rfl
/-- 0x25, ZeroPage AND, is not in the attested table (R57). -/
theorem test_decode_attested : decodeWith optableAttested [0x25, 0x10] = .error (.unrecognizedOpcode 0x25) := by rfl
/-- LDA Absolute 0x1234 as `spec/opcode_table.json` numbers its bits: opcode 0xAD in bits 7:0. -/
theorem test_table_word : decodeTableWord 24 0x1234AD = some (.ldaAbsolute 0x1234) := by rfl
/-- Operand bits the table gives no bits are 0. -/
theorem test_table_word_short : decodeTableWord 8 0xAD = some (.ldaAbsolute 0) := by rfl

/-! ### Well-formedness: each check of R58 refuses a table that fails it alone -/

/-- (a) opcode 0xA9 twice -/
theorem test_wf_duplicate_opcode :
    OpTable.wf [⟨0xA9, .lda, .immediate, 2⟩, ⟨0xA9, .and, .immediate, 2⟩] = false := by decide
/-- (b) an Immediate row of length 3 -/
theorem test_wf_length : OpTable.wf [⟨0xA9, .lda, .immediate, 3⟩] = false := by decide
/-- (c) STA has no Immediate mode -/
theorem test_wf_pair : OpTable.wf [⟨0x89, .sta, .immediate, 2⟩] = false := by decide
/-- (d) BRK has opcode 0x00 -/
theorem test_wf_brk : OpTable.wf [⟨0x02, .brk, .implicit, 1⟩] = false := by decide
theorem test_wf_default : optable.wf = true := by decide
theorem test_wf_attested : optableAttested.wf = true := by decide
/-- An empty table passes: R58 has no check against it. -/
theorem test_wf_empty : OpTable.wf [] = true := by decide
/-- No core is constructed over a table that fails (D25). -/
theorem test_construct_refused : constructWith [⟨0xA9, .lda, .immediate, 3⟩] = none := by decide
/-- The attested table has no STA row, so its code cannot hold a STA. -/
theorem test_instr_not_wf : (Instr.staZeroPage 0x10).wellFormed optableAttested = false := by decide

/-! ### One step: the vectors of `spec/95_test_vectors.md` -/

/-- V1 (R111) -/
theorem test_V1_andImmediate :
    after (vec 0xCC 0x00 0x00 0x00 0x8000 [0x29, 0xAA] []) [] =
      some (([0x88, 0x00, 0x00, 0x80], 0x8002), []) := by decide
/-- V2 (R111): result zero; V and C kept -/
theorem test_V2_andImmediate :
    after (vec 0xFF 0x00 0x00 0xC1 0x8000 [0x29, 0x00] []) [] =
      some (([0x00, 0x00, 0x00, 0x43], 0x8002), []) := by decide
/-- V3 (R112) -/
theorem test_V3_andZeroPage :
    after (vec 0xFF 0x00 0x00 0x00 0x8000 [0x25, 0x10] [(0x0010, 0x0F)]) [] =
      some (([0x0F, 0x00, 0x00, 0x00], 0x8002), []) := by decide
/-- V4 (R113): zero-page wrap 0xF0+0x20=0x10 -/
theorem test_V4_andZeroPageX :
    after (vec 0x5A 0x20 0x00 0x00 0x8000 [0x35, 0xF0] [(0x0010, 0x00)]) [] =
      some (([0x00, 0x20, 0x00, 0x02], 0x8002), []) := by decide
/-- V5 (R114) -/
theorem test_V5_andAbsolute :
    after (vec 0xF0 0x00 0x00 0x00 0x8000 [0x2D, 0x34, 0x12] [(0x1234, 0x81)]) [] =
      some (([0x80, 0x00, 0x00, 0x80], 0x8003), []) := by decide
/-- V6 (R115): carry into the high byte -/
theorem test_V6_andAbsoluteX :
    after (vec 0x0F 0x01 0x00 0x00 0x8000 [0x3D, 0xFF, 0x12] [(0x1300, 0x3C)]) [] =
      some (([0x0C, 0x01, 0x00, 0x00], 0x8003), []) := by decide
/-- V7 (R116): 0xFFF0+0x20 wraps to 0x0010 -/
theorem test_V7_andAbsoluteY :
    after (vec 0x33 0x00 0x20 0x00 0x8000 [0x39, 0xF0, 0xFF] [(0x0010, 0x55)]) [] =
      some (([0x11, 0x00, 0x20, 0x00], 0x8003), []) := by decide
/-- V8 (R117): pointer at 0xFF, high byte from 0x00 -/
theorem test_V8_andIndirectX :
    after (vec 0xFF 0x01 0x00 0x00 0x8000 [0x21, 0xFE] [(0x00FF, 0x34), (0x0000, 0x12), (0x1234, 0x7F)]) [] =
      some (([0x7F, 0x01, 0x00, 0x00], 0x8002), []) := by decide
/-- V9 (R118) -/
theorem test_V9_andIndirectY :
    after (vec 0xC3 0x00 0x10 0x00 0x8000 [0x31, 0x86] [(0x0086, 0x28), (0x0087, 0x40), (0x4038, 0xC0)]) [] =
      some (([0xC0, 0x00, 0x10, 0x80], 0x8002), []) := by decide
/-- V11 (R120): result zero, carry out -/
theorem test_V11_aslAccumulator :
    after (vec 0x80 0x00 0x00 0x00 0x8000 [0x0A] []) [] =
      some (([0x00, 0x00, 0x00, 0x03], 0x8001), []) := by decide
/-- V12 (R120): old carry not shifted in; C cleared -/
theorem test_V12_aslAccumulator :
    after (vec 0x40 0x00 0x00 0x01 0x8000 [0x0A] []) [] =
      some (([0x80, 0x00, 0x00, 0x80], 0x8001), []) := by decide
/-- V14 (R121): A untouched -/
theorem test_V14_aslZeroPage :
    after (vec 0x11 0x00 0x00 0x00 0x8000 [0x06, 0x10] [(0x0010, 0x81)]) [0x0010] =
      some (([0x11, 0x00, 0x00, 0x01], 0x8002), [0x02]) := by decide
/-- V15 (R122): zero-page wrap -/
theorem test_V15_aslZeroPageX :
    after (vec 0x00 0x01 0x00 0x00 0x8000 [0x16, 0xFF] [(0x0000, 0x40)]) [0x0000] =
      some (([0x00, 0x01, 0x00, 0x80], 0x8002), [0x80]) := by decide
/-- V16 (R123) -/
theorem test_V16_aslAbsolute :
    after (vec 0x00 0x00 0x00 0x00 0x8000 [0x0E, 0x00, 0x02] [(0x0200, 0x80)]) [0x0200] =
      some (([0x00, 0x00, 0x00, 0x03], 0x8003), [0x00]) := by decide
/-- V17 (R124) -/
theorem test_V17_aslAbsoluteX :
    after (vec 0x00 0x20 0x00 0x01 0x8000 [0x1E, 0xF0, 0x12] [(0x1310, 0x2A)]) [0x1310] =
      some (([0x00, 0x20, 0x00, 0x00], 0x8003), [0x54]) := by decide
/-- V18 (R126): N,V from operand, Z from A AND operand -/
theorem test_V18_bitZeroPage :
    after (vec 0x0F 0x00 0x00 0x00 0x8000 [0x24, 0x10] [(0x0010, 0xF0)]) [] =
      some (([0x0F, 0x00, 0x00, 0xC2], 0x8002), []) := by decide
/-- V19 (R126): clears N,V,Z; C kept -/
theorem test_V19_bitZeroPage :
    after (vec 0xFF 0x00 0x00 0xC3 0x8000 [0x24, 0x10] [(0x0010, 0x01)]) [] =
      some (([0xFF, 0x00, 0x00, 0x01], 0x8002), []) := by decide
/-- V20 (R127) -/
theorem test_V20_bitAbsolute :
    after (vec 0x40 0x00 0x00 0x00 0x8000 [0x2C, 0x34, 0x12] [(0x1234, 0x40)]) [] =
      some (([0x40, 0x00, 0x00, 0x40], 0x8003), []) := by decide
/-- V21 (R127) -/
theorem test_V21_bitAbsolute :
    after (vec 0x00 0x00 0x00 0x01 0x8000 [0x2C, 0x34, 0x12] [(0x1234, 0xFF)]) [] =
      some (([0x00, 0x00, 0x00, 0xC3], 0x8003), []) := by decide
/-- V31 (R142): not taken -/
theorem test_V31_bcc :
    after (vec 0x00 0x00 0x00 0x01 0x8000 [0x90, 0x03] []) [] =
      some (([0x00, 0x00, 0x00, 0x01], 0x8002), []) := by decide
/-- V33 (R142): taken, -127 (not -1) -/
theorem test_V33_bcc :
    after (vec 0x00 0x00 0x00 0xC2 0x8000 [0x90, 0xFF] []) [] =
      some (([0x00, 0x00, 0x00, 0xC2], 0x7F83), []) := by decide
/-- V40 (R143): taken -/
theorem test_V40_bcs :
    after (vec 0x00 0x00 0x00 0x01 0x8000 [0xB0, 0x04] []) [] =
      some (([0x00, 0x00, 0x00, 0x01], 0x8006), []) := by decide
/-- V41 (R143): not taken; P kept -/
theorem test_V41_bcs :
    after (vec 0x00 0x00 0x00 0xC2 0x8000 [0xB0, 0x04] []) [] =
      some (([0x00, 0x00, 0x00, 0xC2], 0x8002), []) := by decide
/-- V42 (R144): taken, -16 -/
theorem test_V42_beq :
    after (vec 0x00 0x00 0x00 0x02 0x8000 [0xF0, 0x90] []) [] =
      some (([0x00, 0x00, 0x00, 0x02], 0x7FF2), []) := by decide
/-- V43 (R144): not taken -/
theorem test_V43_beq :
    after (vec 0x00 0x00 0x00 0x81 0x8000 [0xF0, 0x90] []) [] =
      some (([0x00, 0x00, 0x00, 0x81], 0x8002), []) := by decide
/-- V51 (R151): Z set, N cleared, C kept -/
theorem test_V51_ldaImmediate :
    after (vec 0x00 0x00 0x00 0x81 0x8000 [0xA9, 0x00] []) [] =
      some (([0x00, 0x00, 0x00, 0x03], 0x8002), []) := by decide
/-- V52 (R151): N set, Z cleared, V kept -/
theorem test_V52_ldaImmediate :
    after (vec 0x00 0x00 0x00 0x42 0x8000 [0xA9, 0x80] []) [] =
      some (([0x80, 0x00, 0x00, 0xC0], 0x8002), []) := by decide
/-- V53 (R152) -/
theorem test_V53_ldaZeroPage :
    after (vec 0x00 0x00 0x00 0x00 0x8000 [0xA5, 0x42] [(0x0042, 0x7F)]) [] =
      some (([0x7F, 0x00, 0x00, 0x00], 0x8002), []) := by decide
/-- V54 (R153): source property: base 0xFF index 1 -> 0x00 -/
theorem test_V54_ldaZeroPageX :
    after (vec 0x00 0x01 0x00 0x00 0x8000 [0xB5, 0xFF] [(0x0000, 0x99), (0x0100, 0x11)]) [] =
      some (([0x99, 0x01, 0x00, 0x80], 0x8002), []) := by decide
/-- V55 (R154): reads its own opcode byte -/
theorem test_V55_ldaAbsolute :
    after (vec 0x00 0x00 0x00 0x00 0x8000 [0xAD, 0x00, 0x80] []) [] =
      some (([0xAD, 0x00, 0x00, 0x80], 0x8003), []) := by decide
/-- V56 (R155): 0xFFFF+2 wraps to 0x0001 -/
theorem test_V56_ldaAbsoluteX :
    after (vec 0x00 0x02 0x00 0x00 0x8000 [0xBD, 0xFF, 0xFF] [(0x0001, 0x5A)]) [] =
      some (([0x5A, 0x02, 0x00, 0x00], 0x8003), []) := by decide
/-- V57 (R156) -/
theorem test_V57_ldaAbsoluteY :
    after (vec 0x00 0x00 0xFF 0x00 0x8000 [0xB9, 0x00, 0x20] [(0x20FF, 0xC0)]) [] =
      some (([0xC0, 0x00, 0xFF, 0x80], 0x8003), []) := by decide
/-- V58 (R157) -/
theorem test_V58_ldaIndirectX :
    after (vec 0x77 0x04 0x00 0x00 0x8000 [0xA1, 0x20] [(0x0024, 0x00), (0x0025, 0x30), (0x3000, 0x00)]) [] =
      some (([0x00, 0x04, 0x00, 0x02], 0x8002), []) := by decide
/-- V59 (R157): pointer high byte from 0x0000 -/
theorem test_V59_ldaIndirectX :
    after (vec 0x00 0x00 0x00 0x00 0x8000 [0xA1, 0xFF] [(0x00FF, 0x78), (0x0000, 0x56), (0x5678, 0x9A)]) [] =
      some (([0x9A, 0x00, 0x00, 0x80], 0x8002), []) := by decide
/-- V60 (R158): base 0xFFFF + 1 wraps to 0x0000 -/
theorem test_V60_ldaIndirectY :
    after (vec 0x00 0x00 0x01 0x00 0x8000 [0xB1, 0xFF] [(0x00FF, 0xFF), (0x0000, 0xFF)]) [] =
      some (([0xFF, 0x00, 0x01, 0x80], 0x8002), []) := by decide
/-- V61 (R158) -/
theorem test_V61_ldaIndirectY :
    after (vec 0x00 0x00 0x10 0x00 0x8000 [0xB1, 0x40] [(0x0040, 0xF8), (0x0041, 0x12), (0x1308, 0x01)]) [] =
      some (([0x01, 0x00, 0x10, 0x00], 0x8002), []) := by decide
/-- V62 (R160): N set -/
theorem test_V62_ldxImmediate :
    after (vec 0x00 0x00 0x00 0x00 0x8000 [0xA2, 0xFD] []) [] =
      some (([0x00, 0xFD, 0x00, 0x80], 0x8002), []) := by decide
/-- V63 (R161) -/
theorem test_V63_ldxZeroPage :
    after (vec 0x00 0x55 0x00 0x00 0x8000 [0xA6, 0x10] [(0x0010, 0x00)]) [] =
      some (([0x00, 0x00, 0x00, 0x02], 0x8002), []) := by decide
/-- V64 (R162): indexed by Y, wraps -/
theorem test_V64_ldxZeroPageY :
    after (vec 0x00 0x00 0x20 0x00 0x8000 [0xB6, 0xF0] [(0x0010, 0x33)]) [] =
      some (([0x00, 0x33, 0x20, 0x00], 0x8002), []) := by decide
/-- V65 (R163) -/
theorem test_V65_ldxAbsolute :
    after (vec 0x00 0x00 0x00 0x00 0x8000 [0xAE, 0x34, 0x12] [(0x1234, 0x80)]) [] =
      some (([0x00, 0x80, 0x00, 0x80], 0x8003), []) := by decide
/-- V66 (R164): absolute,Y does not wrap in page zero -/
theorem test_V66_ldxAbsoluteY :
    after (vec 0x00 0x00 0x01 0x00 0x8000 [0xBE, 0xFF, 0x00] [(0x0100, 0x44)]) [] =
      some (([0x00, 0x44, 0x01, 0x00], 0x8003), []) := by decide
/-- V67 (R166) -/
theorem test_V67_ldyImmediate :
    after (vec 0x00 0x00 0x00 0x00 0x8000 [0xA0, 0x02] []) [] =
      some (([0x00, 0x00, 0x02, 0x00], 0x8002), []) := by decide
/-- V68 (R167) -/
theorem test_V68_ldyZeroPage :
    after (vec 0x00 0x00 0x00 0x00 0x8000 [0xA4, 0x80] [(0x0080, 0xFF)]) [] =
      some (([0x00, 0x00, 0xFF, 0x80], 0x8002), []) := by decide
/-- V69 (R168) -/
theorem test_V69_ldyZeroPageX :
    after (vec 0x00 0x01 0x00 0x00 0x8000 [0xB4, 0xFF] [(0x0000, 0xAB)]) [] =
      some (([0x00, 0x01, 0xAB, 0x80], 0x8002), []) := by decide
/-- V70 (R169): reads vector low byte -/
theorem test_V70_ldyAbsolute :
    after (vec 0x00 0x00 0x09 0x00 0x8000 [0xAC, 0xFC, 0xFF] [(0xFFFC, 0x00)]) [] =
      some (([0x00, 0x00, 0x00, 0x02], 0x8003), []) := by decide
/-- V71 (R170): reads its own operand byte b2 at 0x8002 -/
theorem test_V71_ldyAbsoluteX :
    after (vec 0x00 0x01 0x00 0x00 0x8000 [0xBC, 0x01, 0x80] []) [] =
      some (([0x00, 0x01, 0x80, 0x80], 0x8003), []) := by decide
/-- V72 (R172): no flag change -/
theorem test_V72_staZeroPage :
    after (vec 0x5A 0x00 0x00 0xC3 0x8000 [0x85, 0x10] []) [0x0010] =
      some (([0x5A, 0x00, 0x00, 0xC3], 0x8002), [0x5A]) := by decide
/-- V73 (R173): zero-page wrap -/
theorem test_V73_staZeroPageX :
    after (vec 0xAB 0x01 0x00 0x00 0x8000 [0x95, 0xFF] []) [0x0000] =
      some (([0xAB, 0x01, 0x00, 0x00], 0x8002), [0xAB]) := by decide
/-- V74 (R174): store to the reset vector is legal -/
theorem test_V74_staAbsolute :
    after (vec 0x34 0x00 0x00 0x00 0x8000 [0x8D, 0xFC, 0xFF] []) [0xFFFC] =
      some (([0x34, 0x00, 0x00, 0x00], 0x8003), [0x34]) := by decide
/-- V75 (R175): stores zero; Z not set -/
theorem test_V75_staAbsoluteX :
    after (vec 0x00 0xFF 0x00 0x00 0x8000 [0x9D, 0x00, 0x02] [(0x02FF, 0x77)]) [0x02FF] =
      some (([0x00, 0xFF, 0x00, 0x00], 0x8003), [0x00]) := by decide
/-- V76 (R176): wraps to 0x0000 -/
theorem test_V76_staAbsoluteY :
    after (vec 0x11 0x00 0x01 0x00 0x8000 [0x99, 0xFF, 0xFF] []) [0x0000] =
      some (([0x11, 0x00, 0x01, 0x00], 0x8003), [0x11]) := by decide
/-- V77 (R177) -/
theorem test_V77_staIndirectX :
    after (vec 0xEE 0x04 0x00 0x00 0x8000 [0x81, 0x20] [(0x0024, 0x00), (0x0025, 0x30)]) [0x3000] =
      some (([0xEE, 0x04, 0x00, 0x00], 0x8002), [0xEE]) := by decide
/-- V78 (R178) -/
theorem test_V78_staIndirectY :
    after (vec 0xC1 0x00 0x02 0x00 0x8000 [0x91, 0x10] [(0x0010, 0x34), (0x0011, 0x12)]) [0x1236] =
      some (([0xC1, 0x00, 0x02, 0x00], 0x8002), [0xC1]) := by decide
/-- V79 (R174): overwrites its own operand byte after reading it -/
theorem test_V79_staAbsolute :
    after (vec 0x99 0x00 0x00 0x00 0x8000 [0x8D, 0x01, 0x80] []) [0x8001] =
      some (([0x99, 0x00, 0x00, 0x00], 0x8003), [0x99]) := by decide
/-- V91 (R190) -/
theorem test_V91_tax :
    after (vec 0x00 0x55 0x00 0x81 0x8000 [0xAA] []) [] =
      some (([0x00, 0x00, 0x00, 0x03], 0x8001), []) := by decide
/-- V92 (R190) -/
theorem test_V92_tax :
    after (vec 0xFF 0x00 0x00 0x00 0x8000 [0xAA] []) [] =
      some (([0xFF, 0xFF, 0x00, 0x80], 0x8001), []) := by decide
/-- V93 (R191) -/
theorem test_V93_inx :
    after (vec 0x00 0xFF 0x00 0x00 0x8000 [0xE8] []) [] =
      some (([0x00, 0x00, 0x00, 0x02], 0x8001), []) := by decide
/-- V95 (R191) -/
theorem test_V95_inx :
    after (vec 0x00 0x00 0x00 0x43 0x8000 [0xE8] []) [] =
      some (([0x00, 0x01, 0x00, 0x41], 0x8001), []) := by decide
/-- V96 (R195) -/
theorem test_V96_brk :
    haltAfter (vec 0x01 0x02 0x03 0xC3 0x8000 [0x00] []) =
      some (([0x01, 0x02, 0x03, 0xC3], 0x8001), .brk) := by decide
/-- V97 (R197) -/
theorem test_V97_unrecognized :
    haltAfter (vec 0x01 0x02 0x03 0xC3 0x8000 [0x02] []) =
      some (([0x01, 0x02, 0x03, 0xC3], 0x8000), .unrecognizedOpcode 0x02 0x8000) := by decide
/-- V98 (R197): MOS 6502 NOP is not in the subset -/
theorem test_V98_unrecognized :
    haltAfter (vec 0x00 0x00 0x00 0x00 0x8000 [0xEA] []) =
      some (([0x00, 0x00, 0x00, 0x00], 0x8000), .unrecognizedOpcode 0xEA 0x8000) := by decide
/-- V99 (R197): fatal at the top of memory; PC stays 0xFFFF -/
theorem test_V99_unrecognized :
    haltAfter (vec 0x00 0x00 0x00 0x00 0xFFFF [0xFF] []) =
      some (([0x00, 0x00, 0x00, 0x00], 0xFFFF), .unrecognizedOpcode 0xFF 0xFFFF) := by decide
/-- V100 (R195): BRK at the top of memory; PC wraps to 0x0000 -/
theorem test_V100_brk :
    haltAfter (vec 0x00 0x00 0x00 0x00 0xFFFF [0x00] []) =
      some (([0x00, 0x00, 0x00, 0x00], 0x0000), .brk) := by decide

/-- V35 and V36: the corner of displacement -1 under the two settings of `REDIRECT_DETECT` -/
theorem test_V35_V36_corner :
    (stepTable ⟨optable, .pcCompare⟩ (vec 0 0 0 0 0x8000 [0x90, 0x81] [])).pc = 0x8002 ∧
    (stepTable ⟨optable, .explicit⟩ (vec 0 0 0 0 0x8000 [0x90, 0x81] [])).pc = 0x8001 := by decide

/-! ### The resolver: the modes without an address, the pointer wrap, and the word reads -/

/-- E17, E18 -/
theorem test_E17_E18_no_address :
    State.reset.effectiveAddress .accumulator = none ∧ State.reset.effectiveAddress .implicit = none := by decide
/-- E12: the high byte of the pointer at 0xFF comes from 0x0000, not 0x0100. -/
theorem test_E12_pointer_wraps :
    (vec 0 1 0 0 0x8000 [] [(0x00FF, 0x34), (0x0000, 0x12), (0x0100, 0x99)]).effectiveAddress (.indirectX 0xFE) =
      some 0x1234 := by decide
/-- The word reads at the end of section 5 of the vectors file -/
theorem test_word_read_at_FFFF :
    (vec 0 0 0 0 0x8000 [] [(0xFFFF, 0x34), (0x0000, 0x12)]).readWord 0xFFFF = 0x1234 := by decide
/-- R202, E18: over a table that R58 refuses (AND Implicit), the fatal condition, everything else as before the step -/
theorem test_unsupported_mode :
    stepTable ⟨[⟨0x29, .and, .implicit, 1⟩], .pcCompare⟩ (vec 1 2 3 0xC3 0x8000 [0x29] []) =
      { vec 1 2 3 0xC3 0x8000 [0x29] [] with rs := .halted, hc := .unsupportedAddressingMode .implicit } := by decide

/-! ### The host operations -/

/-- H0a: no step in `Reset` -/
theorem test_H0a : step State.construct = .next State.construct := by rfl
/-- H1, one step after reset: the byte at 0x0000 is BRK -/
theorem test_H1 : haltAfter (hostReset State.construct) = some (([0, 0, 0, 0], 0x0001), .brk) := by decide
/-- H2: `load` writes the bytes and the vector and touches no register -/
theorem test_H2_load :
    (load [0xA9, 0xFF, 0x0A, 0x00] State.construct).map (fun t => (t.mem, regs t, t.rs)) =
      some ([(0x8000, 0xA9), (0x8001, 0xFF), (0x8002, 0x0A), (0xFFFD, 0x80)], ([0, 0, 0, 0], 0x0000), .reset) := by decide
/-- H2a: then `reset` -/
theorem test_H2a_boot :
    (boot [0xA9, 0xFF, 0x0A, 0x00]).map (fun t => (regs t, t.rs, t.hc)) =
      some (([0, 0, 0, 0], 0x8000), .running, .none) := by decide
/-- H7: `load` of nothing -/
theorem test_H7_load_nothing : (load [] State.construct).map State.mem = some [(0xFFFD, 0x80)] := by decide
/-- H5: 0x8001 bytes are refused -/
theorem test_H5_load_refused : load (List.replicate 0x8001 0xAA) State.construct = none := by
  rw [load, if_neg]
  rw [List.length_replicate]
  decide
/-- An instruction word placed at `PC` is what the next step runs: LDX 0x05. -/
theorem test_withFetchWord :
    after (State.reset.withFetchWord 16 0x05A2) [] = some (([0, 5, 0, 0], 0x0002), []) := by decide
/-- `run` distinguishes a core not running, one out of fuel, and one halted (R227, R238). -/
theorem test_run_ends :
    run 0 State.construct = .notRunning State.construct ∧ run 0 State.reset = .outOfFuel State.reset ∧
    run 1 State.reset = .halted .brk { State.reset with rs := .halted, hc := .brk, pc := 1 } := by decide
/-- The codes of R200. -/
theorem test_codes :
    HaltCause.brk.code = some 0 ∧ (HaltCause.unrecognizedOpcode 2 0).code = some 1 ∧
    (HaltCause.unsupportedAddressingMode .implicit).code = some 2 := by decide
/-! ### The hypotheses of the statements can be met

One theorem per statement with hypotheses, named after it; where a statement has several clauses, one per clause. -/

/-- `EveryAcceptedTableRoundTrips`, for a table other than the default one -/
theorem test_hyp_EveryAcceptedTableRoundTrips :
    optableAttested.wf = true ∧ (Instr.ldaImmediate 0x05).wellFormed optableAttested = true := by decide

/-- `RecognizedBytesAreThe46`: the least and greatest byte on its list, and bytes beside it off the list -/
theorem test_hyp_RecognizedBytesAreThe46 :
    (optable.lookup 0x00).isSome ∧ (optable.lookup 0xF0).isSome ∧
    optable.lookup 0x01 = none ∧ optable.lookup 0xF1 = none ∧ optable.lookup 0xFF = none := by decide

/-- `DecodedBytesAreTheEncoding` -/
theorem test_hyp_DecodedBytesAreTheEncoding :
    ∃ bs rest i, decode bs = .ok (i, rest) ∧ rest ≠ [] :=
  ⟨[0x0E, 0xFF, 0x00, 0xEA], [0xEA], .aslAbsolute 0x00FF, by rfl, by decide⟩

/-- `StepRunsTheDecodedInstruction`: LDA #05; the bytes after it are BRK -/
theorem test_hyp_StepRunsTheDecodedInstruction :
    ∃ (s t : State) (i : Instr) (rest : List Byte), s.rs = .running ∧ decode s.fetchBytes = .ok (i, rest) ∧
      exec i { s with pc := s.pc + 1, pbd := some (s.pc + 1), redirected := false } = .next t ∧
      t.rs ≠ .halted ∧ t.pbd = some t.pc :=
  ⟨vec 0 0 0 0 0xFFFF [0xA9, 0x05] [], _, .ldaImmediate 0x05, [0x00], by decide, by rfl, rfl, by decide, by decide⟩

/-- `StepRunsTheDecodedInstruction`: an instruction that halts, BRK -/
theorem test_hyp_StepRunsTheDecodedInstruction_halting :
    ∃ (s t : State) (i : Instr) (rest : List Byte), s.rs = .running ∧ decode s.fetchBytes = .ok (i, rest) ∧
      exec i { s with pc := s.pc + 1, pbd := some (s.pc + 1), redirected := false } = .next t ∧ t.rs = .halted :=
  ⟨vec 0 0 0 0 0x8000 [0x00] [], _, .brk, [0x00, 0x00], by decide, by rfl, rfl, by decide⟩

/-- `StepRunsTheDecodedInstruction`: an instruction that redirects, BCC with Carry clear -/
theorem test_hyp_StepRunsTheDecodedInstruction_redirecting :
    ∃ (s t : State) (i : Instr) (rest : List Byte), s.rs = .running ∧ decode s.fetchBytes = .ok (i, rest) ∧
      exec i { s with pc := s.pc + 1, pbd := some (s.pc + 1), redirected := false } = .next t ∧
      t.rs ≠ .halted ∧ t.pbd ≠ some t.pc :=
  ⟨vec 0 0 0 0 0x8000 [0x90, 0x03] [], _, .bcc 0x03, [0x00], by decide, by rfl, rfl, by decide, by decide⟩

/-- `NoStepOutsideRunning`: in `Reset` and in `Halted` -/
theorem test_hyp_NoStepOutsideRunning :
    State.construct.rs ≠ .running ∧ State.reset.haltBrk.rs ≠ .running := by decide

/-- `UnrecognizedOpcodeHalts` -/
theorem test_hyp_UnrecognizedOpcodeHalts :
    ∃ s : State, s.rs = .running ∧ optable.lookup (s.readByte s.pc) = none :=
  ⟨vec 0 0 0 0 0xFFFF [0xFF] [], by decide, by decide⟩

/-- The bytes at the `PC` of a running state decode to an instruction. -/
def DecodesTo (s : State) (i : Instr) : Prop := s.rs = .running ∧ ∃ rest, decode s.fetchBytes = .ok (i, rest)

/-- `PcAfterEveryKindOfStep`, first clause: an instruction that is no branch, of each length, at the top of memory -/
theorem test_hyp_PcAfterEveryKindOfStep_plain :
    DecodesTo (vec 0 0 0 0 0xFFFF [0xE8] []) .inx ∧
    DecodesTo (vec 0 0 0 0 0xFFFF [0xA9, 0x05] []) (.ldaImmediate 0x05) ∧
    DecodesTo (vec 0 0 0 0 0xFFFF [0xAD, 0x34, 0x12] []) (.ldaAbsolute 0x1234) :=
  ⟨⟨rfl, _, rfl⟩, ⟨rfl, _, rfl⟩, ⟨rfl, _, rfl⟩⟩

/-- `PcAfterEveryKindOfStep`, second clause: each branch not taken -/
theorem test_hyp_PcAfterEveryKindOfStep_notTaken :
    DecodesTo (vec 0 0 0 0x01 0x8000 [0x90, 0x03] []) (.bcc 0x03) ∧
    (vec 0 0 0 0x01 0x8000 [0x90, 0x03] []).p.getLsbD 0 = true ∧
    DecodesTo (vec 0 0 0 0xC2 0x8000 [0xB0, 0x04] []) (.bcs 0x04) ∧
    (vec 0 0 0 0xC2 0x8000 [0xB0, 0x04] []).p.getLsbD 0 = false ∧
    DecodesTo (vec 0 0 0 0x81 0x8000 [0xF0, 0x90] []) (.beq 0x90) ∧
    (vec 0 0 0 0x81 0x8000 [0xF0, 0x90] []).p.getLsbD 1 = false :=
  ⟨⟨rfl, _, rfl⟩, by decide, ⟨rfl, _, rfl⟩, by decide, ⟨rfl, _, rfl⟩, by decide⟩

/-- `PcAfterEveryKindOfStep`, third clause: each branch taken, with the offset bytes 0x80, 0x81, 0xFF and 0x7F -/
theorem test_hyp_PcAfterEveryKindOfStep_taken :
    DecodesTo (vec 0 0 0 0 0x8000 [0x90, 0x81] []) (.bcc 0x81) ∧
    DecodesTo (vec 0 0 0 0 0x8000 [0x90, 0x80] []) (.bcc 0x80) ∧
    (vec 0 0 0 0 0x8000 [0x90, 0x81] []).p.getLsbD 0 = false ∧
    DecodesTo (vec 0 0 0 1 0x0001 [0xB0, 0xFF] []) (.bcs 0xFF) ∧
    (vec 0 0 0 1 0x0001 [0xB0, 0xFF] []).p.getLsbD 0 = true ∧
    DecodesTo (vec 0 0 0 2 0xFFF8 [0xF0, 0x7F] []) (.beq 0x7F) ∧
    (vec 0 0 0 2 0xFFF8 [0xF0, 0x7F] []).p.getLsbD 1 = true :=
  ⟨⟨rfl, _, rfl⟩, ⟨rfl, _, rfl⟩, by decide, ⟨rfl, _, rfl⟩, by decide, ⟨rfl, _, rfl⟩, by decide⟩

/-- `PcAfterEveryKindOfStep`: BRK at the top of memory -/
theorem test_hyp_PcAfterEveryKindOfStep_brk : DecodesTo (vec 0 0 0 0 0xFFFF [0x00] []) .brk := ⟨rfl, _, rfl⟩

/-- `PcAfterEveryKindOfStep`, last clause: bytes that decode to no instruction -/
theorem test_hyp_PcAfterEveryKindOfStep_unrecognized :
    (vec 0 0 0 0 0xFFFF [0xFF] []).rs = .running ∧
    ∀ i rest, decode (vec 0 0 0 0 0xFFFF [0xFF] []).fetchBytes ≠ .ok (i, rest) := by
  have h : decode (vec 0 0 0 0 0xFFFF [0xFF] []).fetchBytes = .error (.unrecognizedOpcode 0xFF) := by rfl
  exact ⟨rfl, fun i rest => by rw [h]; exact fun e => by cases e⟩

/-- `ResolverFollowsThePseudocode`, last clause: the modes it covers, at the ends of the list -/
theorem test_hyp_ResolverFollowsThePseudocode :
    Mode.immediate ≠ .accumulator ∧ Mode.immediate ≠ .implicit ∧ Mode.relative ≠ .accumulator ∧
    Mode.relative ≠ .implicit := by decide

/-- `TaxCompletes`, `InxCompletes`, `BrkHaltsNormally`: the step clauses -/
theorem test_hyp_TaxCompletes :
    (vec 0 0 0 0 0xFFFF [0xAA] []).rs = .running ∧
    (vec 0 0 0 0 0xFFFF [0xAA] []).readByte (vec 0 0 0 0 0xFFFF [0xAA] []).pc = 0xAA := by decide
theorem test_hyp_InxCompletes :
    (vec 0 0xFF 0 0 0xFFFF [0xE8] []).rs = .running ∧
    (vec 0 0xFF 0 0 0xFFFF [0xE8] []).readByte (vec 0 0xFF 0 0 0xFFFF [0xE8] []).pc = 0xE8 := by decide
theorem test_hyp_BrkHaltsNormally :
    State.reset.rs = .running ∧ State.reset.readByte State.reset.pc = 0x00 := by decide

/-- `DisplacementMinusOneCorner`: each of the three branches; BCC under the attested table, at the top of memory -/
theorem test_hyp_DisplacementMinusOneCorner_bcc :
    ∃ (tb : OpTable) (d : Descriptor) (s : State), tb.wf = true ∧ s.rs = .running ∧
      tb.lookup (s.readByte s.pc) = some d ∧ TakesBranch d.mnemonic s ∧ s.readByte (s.pc + 1) = 0x81 :=
  ⟨optableAttested, ⟨0x90, .bcc, .relative, 2⟩, vec 0 0 0 0 0xFFFF [0x90, 0x81] [], by decide, by decide, by rfl,
    .inl ⟨rfl, by decide⟩, by decide⟩
theorem test_hyp_DisplacementMinusOneCorner_bcs :
    ∃ (d : Descriptor) (s : State), s.rs = .running ∧ optable.lookup (s.readByte s.pc) = some d ∧ d.mnemonic = .bcs ∧
      TakesBranch d.mnemonic s ∧ s.readByte (s.pc + 1) = 0x81 :=
  ⟨⟨0xB0, .bcs, .relative, 2⟩, vec 0 0 0 1 0x8000 [0xB0, 0x81] [], by decide, by rfl, rfl,
    .inr (.inl ⟨rfl, by decide⟩), by decide⟩
theorem test_hyp_DisplacementMinusOneCorner_beq :
    ∃ (d : Descriptor) (s : State), s.rs = .running ∧ optable.lookup (s.readByte s.pc) = some d ∧ d.mnemonic = .beq ∧
      TakesBranch d.mnemonic s ∧ s.readByte (s.pc + 1) = 0x81 :=
  ⟨⟨0xF0, .beq, .relative, 2⟩, vec 0 0 0 2 0x8000 [0xF0, 0x81] [], by decide, by rfl, rfl,
    .inr (.inr ⟨rfl, by decide⟩), by decide⟩

/-- `RedirectSettingsAgreeElsewhere`: taken branches with the offset bytes beside 0x81 -/
theorem test_hyp_RedirectSettingsAgreeElsewhere_taken :
    (vec 0 0 0 0 0x8000 [0x90, 0x80] []).readByte (0x8000 + 1) ≠ 0x81 ∧
    (vec 0 0 0 0 0x8000 [0x90, 0x82] []).readByte (0x8000 + 1) ≠ 0x81 := by decide

/-- `RedirectSettingsAgreeElsewhere`: a branch not taken with offset byte 0x81, LDA #81, and TAX before the byte 0x81 -/
theorem test_hyp_RedirectSettingsAgreeElsewhere_with_81 :
    ∀ s ∈ [vec 0 0 0 1 0x8000 [0x90, 0x81] [], vec 0 0 0 0 0x8000 [0xA9, 0x81] [], vec 0 0 0 0 0x8000 [0xAA, 0x81] []],
      s.readByte (s.pc + 1) = 0x81 ∧
      ∀ d, optable.lookup (s.readByte s.pc) = some d → TakesBranch d.mnemonic s → s.readByte (s.pc + 1) ≠ 0x81 := by
  have none_taken : ∀ s ∈ [vec 0 0 0 1 0x8000 [0x90, 0x81] [], vec 0 0 0 0 0x8000 [0xA9, 0x81] [],
      vec 0 0 0 0 0x8000 [0xAA, 0x81] []], s.readByte (s.pc + 1) = 0x81 ∧
      ∀ d ∈ optable.lookup (s.readByte s.pc), ¬ (d.mnemonic = .bcc ∧ s.p.getLsbD 0 = false ∨
        d.mnemonic = .bcs ∧ s.p.getLsbD 0 = true ∨ d.mnemonic = .beq ∧ s.p.getLsbD 1 = true) := by decide
  exact fun s hs => ⟨(none_taken s hs).1, fun d hd ht => absurd ht ((none_taken s hs).2 d hd)⟩

/-- `FlagsChangeOnlyByTheirWriters`: ASL A of 0xC0 changes Carry and Negative, and BIT of 0x40 Overflow and Zero -/
theorem test_hyp_FlagsChangeOnlyByTheirWriters :
    (∃ t, exec .aslAccumulator (vec 0xC0 0 0 0 0x8000 [] []) = .next t ∧ t.p.getLsbD 0 ≠ false ∧ t.p.getLsbD 7 ≠ false) ∧
    ∃ t, exec (.bitZeroPage 0x10) (vec 0 0 0 0 0x8000 [] [(0x0010, 0x40)]) = .next t ∧
      t.p.getLsbD 6 ≠ false ∧ t.p.getLsbD 1 ≠ false :=
  ⟨⟨_, rfl, by decide, by decide⟩, ⟨_, rfl, by decide, by decide⟩⟩

/-- `StateChangesOnlyByItsWriters`: for each clause an instruction that does change what the clause is about -/
theorem test_hyp_StateChangesOnlyByItsWriters :
    (∃ t, exec (.ldaImmediate 5) State.reset = .next t ∧ t.a ≠ State.reset.a) ∧
    (∃ t, exec .inx State.reset = .next t ∧ t.x ≠ State.reset.x) ∧
    (∃ t, exec (.ldyImmediate 5) State.reset = .next t ∧ t.y ≠ State.reset.y) ∧
    (∃ t, exec (.bcc 5) State.reset = .next t ∧ t.pc ≠ State.reset.pc ∧ t.redirected ≠ State.reset.redirected) ∧
    (∃ t, exec .brk State.reset = .next t ∧ t.rs ≠ State.reset.rs ∧ t.hc ≠ State.reset.hc) ∧
    ∃ t, exec (.staAbsolute 0xFFFF) (vec 5 0 0 0 0 [] []) = .next t ∧ t.readByte 0xFFFF ≠ 0 :=
  ⟨⟨_, rfl, by decide⟩, ⟨_, rfl, by decide⟩, ⟨_, rfl, by decide⟩, ⟨_, rfl, by decide, by decide⟩,
    ⟨_, rfl, by decide, by decide⟩, ⟨_, rfl, by decide⟩⟩

/-- `UnnamedStatusBitsCarried`: a state whose unnamed bits are all 1, and a step that writes flags -/
theorem test_hyp_UnnamedStatusBitsCarried :
    ∃ s t : State, s.p = 0x3C ∧ step s = .next t ∧ t.p = 0x3E :=
  ⟨vec 0 0 0 0x3C 0x8000 [0xA9, 0x00] [], _, by decide, rfl, by decide⟩

/-- `NegativeAndOverflowAreNeverRead`: a status byte that differs in both bits -/
theorem test_hyp_NegativeAndOverflowAreNeverRead :
    ∃ (s t : State) (q : Byte), q ≠ s.p ∧ (∀ n, n ≠ 6 → n ≠ 7 → q.getLsbD n = s.p.getLsbD n) ∧ step s = .next t := by
  refine ⟨vec 0 0 0 0x01 0x8000 [0x90, 0x03] [], _, 0xC1, by decide, ?_, rfl⟩
  intro n h6 h7
  by_cases h : n < 8
  · interval_cases n <;> first | contradiction | decide
  · rw [BitVec.getLsbD_of_ge _ _ (by omega), BitVec.getLsbD_of_ge _ _ (by omega)]

/-- `ByteWriteChangesOneByte`, `WordsAreLittleEndianAndWrap`: addresses beside the ones written, at the top of memory -/
theorem test_hyp_ByteWriteChangesOneByte : (0x0000 : Word) ≠ 0xFFFF := by decide
theorem test_hyp_WordsAreLittleEndianAndWrap :
    (0x0001 : Word) ≠ 0xFFFF ∧ (0x0001 : Word) ≠ 0xFFFF + 1 ∧ (0xFFFE : Word) ≠ 0xFFFF := by decide

/-- `CanonicalMemoriesAreEqualWhenTheyReadAlike`: a memory that is not empty, written in two orders -/
theorem test_hyp_CanonicalMemoriesAreEqualWhenTheyReadAlike :
    ∃ m m' : Memory, Memory.wf m = true ∧ Memory.wf m' = true ∧ m ≠ [] ∧
      ∀ b : Word, Memory.get m b.toNat = Memory.get m' b.toNat :=
  ⟨Memory.set (Memory.set [] 65535 7) 0 9, Memory.set (Memory.set [] 0 9) 65535 7, by decide, by decide, by decide,
    fun _ => rfl⟩

/-- `FlagPrimitivesTouchOneBit`: each flag with its bit -/
theorem test_hyp_FlagPrimitivesTouchOneBit :
    (Flag.carry, 0) ∈ ([(.carry, 0), (.zero, 1), (.overflow, 6), (.negative, 7)] : List (Flag × Nat)) ∧
    (Flag.negative, 7) ∈ ([(.carry, 0), (.zero, 1), (.overflow, 6), (.negative, 7)] : List (Flag × Nat)) := by decide

/-- `StoreIsSeenByTheNextFetch`: STA Absolute into the byte after itself, its bytes wrapping at the top of memory, and ASL
ZeroPage of the second byte the next step fetches -/
theorem test_hyp_StoreIsSeenByTheNextFetch_sta :
    ∃ (s : State) (i : Instr) (rest : List Byte) (ea : Word), s.rs = .running ∧
      decode s.fetchBytes = .ok (i, rest) ∧ i.mnemonic = .sta ∧ s.effectiveAddress i.operand = some ea ∧ ea = s.pc + 3 :=
  ⟨vec 0xE8 0 0 0 0xFFFE [0x8D, 0x01, 0x00] [], .staAbsolute 0x0001, [], 0x0001, by decide, by rfl, by decide, by decide,
    by decide⟩
theorem test_hyp_StoreIsSeenByTheNextFetch_asl :
    ∃ (s : State) (i : Instr) (rest : List Byte) (ea : Word), s.rs = .running ∧
      decode s.fetchBytes = .ok (i, rest) ∧ i.mnemonic = .asl ∧ s.effectiveAddress i.operand = some ea ∧ ea = s.pc + 3 :=
  ⟨vec 0 0 0 0 0x0040 [0x06, 0x43] [], .aslZeroPage 0x43, [0x00], 0x0043, by decide, by rfl, by decide, by decide,
    by decide⟩

/-- `EveryStepKeepsTheInvariant`: the state right after reset meets it and steps -/
theorem test_hyp_EveryStepKeepsTheInvariant : ∃ s t : State, s.Inv ∧ step s = .next t ∧ t ≠ s :=
  ⟨State.reset, _, ⟨by decide, by decide, by decide, (fun _ _ h => by cases h), (fun _ h => by cases h), rfl, rfl⟩, rfl,
    by decide⟩

/-- `EveryReachableStateMeetsTheInvariant`: a state reached by every host operation -/
theorem test_hyp_EveryReachableStateMeetsTheInvariant :
    ∃ s : State, Reachable s ∧ s.hc = .unrecognizedOpcode 0x02 0x8000 :=
  ⟨_, .step (.reset (.load [0x02] .construct rfl)) rfl, by decide⟩

/-- `UnsupportedModeIsUnreachable` -/
theorem test_hyp_UnsupportedModeIsUnreachable :
    optableAttested.wf = true ∧ ∀ m, State.reset.hc ≠ .unsupportedAddressingMode m :=
  ⟨by decide, fun _ h => by cases h⟩

/-- `UnsupportedModeChangesNothingElse` -/
theorem test_hyp_UnsupportedModeChangesNothingElse :
    ∃ (cfg : Config) (s : State) (m : Mode), s.rs = .running ∧ s.hc = .none ∧
      (stepTable cfg s).hc = .unsupportedAddressingMode m :=
  ⟨⟨[⟨0x85, .sta, .accumulator, 1⟩], .explicit⟩, vec 1 2 3 0xC3 0x8000 [0x85] [], .accumulator,
    by decide, by decide, by decide⟩

/-- `HaltedIsAbsorbing` -/
theorem test_hyp_HaltedIsAbsorbing : State.reset.haltBrk.rs = .halted := by decide

/-- `RunsEndByBrkOrUnrecognizedOpcode`: a step to each of its three ends -/
theorem test_hyp_RunsEndByBrkOrUnrecognizedOpcode :
    (∃ t, step (vec 0 0 0 0 0x8000 [0xE8] []) = .next t ∧ t.rs = .running) ∧
    (∃ t, step (vec 0 0 0 0 0xFFFF [0x00] []) = .next t ∧ t.endedNormally = true) ∧
    (∃ t, step (vec 0 0 0 0 0xFFFF [0xFF] []) = .next t ∧ t.faulted = true) ∧
    (vec 0 0 0 0 0xFFFF [0xFF] []).rs = .running ∧ (vec 0 0 0 0 0xFFFF [0xFF] []).hc = .none :=
  ⟨⟨_, rfl, by decide⟩, ⟨_, rfl, by decide⟩, ⟨_, rfl, by decide⟩, by decide, by decide⟩

/-- `BranchToItselfRunsForEver` -/
theorem test_hyp_BranchToItselfRunsForEver :
    ∃ s : State, s.rs = .running ∧ s.pbd = none ∧ s.redirected = false ∧ s.readByte s.pc = 0x90 ∧
      s.readByte (s.pc + 1) = 0x82 ∧ s.p.getLsbD 0 = false :=
  ⟨vec 0 0 0 0 0xFFFF [0x90, 0x82] [], by decide, by decide, by decide, by decide, by decide, by decide⟩

/-- `RunReportsTheHaltCause`: a run that halts, one out of fuel, and a core in `Reset` -/
theorem test_hyp_RunReportsTheHaltCause :
    (∃ t : State, t.rs = .halted ∧ t.hc = .brk ∧ ∃ k, k ≤ 1 ∧ Sys2Proof.core.run k State.reset = .next t) ∧
    (∃ t : State, t.rs = .running ∧ Sys2Proof.core.run 0 State.reset = .next t) ∧ State.construct.rs = .reset :=
  ⟨⟨_, by decide, by decide, 1, by decide, rfl⟩, ⟨_, by decide, rfl⟩, rfl⟩

/-- `ResetReadsTheVector`, last clause -/
theorem test_hyp_ResetReadsTheVector : ∃ bytes s t, load bytes s = some t ∧ bytes ≠ [] :=
  ⟨[0xE8, 0x00], State.construct, _, rfl, by decide⟩

/-- `LoadPlacesTheProgram`: the lengths 0 and 1, the indexes and addresses at the ends of its clauses, and a sequence too
long -/
theorem test_hyp_LoadPlacesTheProgram :
    ([] : List Byte).length ≤ 0x8000 ∧ (0 < ([0xE8] : List Byte).length ∧ 0 ≠ 0x7FFC) ∧
    ((0x7FFF : Word).toNat < 0x8000) ∧ (0x8000 + ([0xE8] : List Byte).length ≤ (0x8001 : Word).toNat) ∧
    (List.replicate 0x8000 (0xAA : Byte)).length ≤ 0x8000 ∧ 0x8000 < (List.replicate 0x8001 (0xAA : Byte)).length := by
  refine ⟨by decide, by decide, by decide, by decide, List.length_replicate.le, ?_⟩
  rw [List.length_replicate]
  decide

/-- `BootStartsTheProgram`: its least and greatest length, and the programs of one and two bytes of S7 and P6 -/
theorem test_hyp_BootStartsTheProgram :
    ([] : List Byte).length ≤ 0x8000 ∧ ([0x02] : List Byte).length ≤ 0x8000 ∧ ([0x90, 0x82] : List Byte).length ≤ 0x8000 ∧
    (List.replicate 0x8000 (0xEA : Byte)).length ≤ 0x8000 :=
  ⟨by decide, by decide, by decide, List.length_replicate.le⟩

/-- `AttestedTableIsASubTable`: an attested opcode, a default one that is not attested, and one in neither table -/
theorem test_hyp_AttestedTableIsASubTable :
    State.reset.rs = .running ∧
    State.reset.readByte State.reset.pc ∈ ([0x00, 0x0A, 0x90, 0xA9, 0xAA, 0xE8] : List Byte) ∧
    (vec 0 0 0 0 0x8000 [0x85] []).readByte 0x8000 ∉ ([0x00, 0x0A, 0x90, 0xA9, 0xAA, 0xE8] : List Byte) ∧
    (vec 0 0 0 0 0x8000 [0x02] []).readByte 0x8000 ∉ ([0x00, 0x0A, 0x90, 0xA9, 0xAA, 0xE8] : List Byte) := by decide

end Sys2Proof.Tests
end

