-- ==== Sys2Proof/Proofs/Scope.lean ====
section
/-! PROOFS. The statements on the parameters of a core (`00_scope.md` R7): round trip of encoder and decoder over every
accepted table, and the step of the default machine as the step over the default table. -/
namespace Sys2Proof

/-- Encoding is by a row of the table with the instruction's mnemonic and mode; a well-formed instruction has one. -/
theorem encodeWith_of_wellFormed {t : OpTable} {i : Instr} (h : i.wellFormed t = true) :
    ∃ d ∈ t, d.mnemonic = i.mnemonic ∧ d.mode = i.operand.mode ∧
      encodeWith t i = some (d.opcode :: i.operand.bytes) := by
  obtain ⟨d, hd⟩ := Option.isSome_iff_exists.mp (List.find?_isSome.mpr (List.any_eq_true.mp h))
  obtain ⟨hm, hmode⟩ : d.mnemonic = i.mnemonic ∧ d.mode = i.operand.mode := by simpa using List.find?_some hd
  exact ⟨d, List.mem_of_find?_eq_some hd, hm, hmode, by simp only [encodeWith, hd]⟩

/-- Where opcodes are unique (R58 (a)), the opcode of a row for an instruction and the instruction's operand bytes decode
to that instruction. -/
theorem decodeWith_row {t : OpTable} (hu : t.opcodesUnique = true) {d : Descriptor} (hd : d ∈ t) {i : Instr}
    (hm : d.mnemonic = i.mnemonic) (hmode : d.mode = i.operand.mode) (rest : List Byte) :
    decodeWith t (d.opcode :: (i.operand.bytes ++ rest)) = .ok (i, rest) := by
  simp only [decodeWith, OpTable.lookup_row hu hd, hmode, takeOperand_bytes, hm, assemble_self]

theorem OpTable.opcodesUnique_of_wf {t : OpTable} (h : t.wf = true) : t.opcodesUnique = true :=
  (Bool.and_eq_true_iff.mp h).1

/-- Settles O4: the row that encodes is the row its opcode looks up, as opcodes are unique. -/
theorem everyAcceptedTableRoundTrips : Obligations.EveryAcceptedTableRoundTrips := by
  intro t i rest hwf hi
  obtain ⟨d, hd, hm, hmode, henc⟩ := encodeWith_of_wellFormed hi
  exact ⟨_, henc, i.operand.length_bytes, decodeWith_row (OpTable.opcodesUnique_of_wf hwf) hd hm hmode rest⟩

namespace Machine

/-- Outside `Running` a step changes nothing (R90, D7). -/
theorem step_of_not_running {s : State} (hr : s.rs ≠ .running) : step s = .next s := by
  simp only [step, cycle, hr, if_false]

/-- A byte that is no opcode raises the fatal condition (R93, R201). -/
theorem step_of_lookup_none {s : State} (hr : s.rs = .running) (h : optable.lookup (s.readByte s.pc) = none) :
    step s = .next (s.raise (.unrecognizedOpcode (s.readByte s.pc) s.pc) s.pc) := by
  simp only [step, cycle, hr, decode_fetch_none h, if_true]

/-- A byte that is an opcode runs its row between the fetch and the advance (R94, R95). -/
theorem step_of_lookup_some {s : State} {d : Descriptor} (hr : s.rs = .running)
    (h : optable.lookup (s.readByte s.pc) = some d) :
    step s = .next ((executeRow d s).advance redirectDetect d.length) := by
  obtain ⟨i, rest, hdec, hm, ho, hlen⟩ := decode_fetch_some h
  rw [step_of_decode hr hdec, hm, ho, hlen, executeRow]

/-- Settles O11, by the branches of R98: outside `Running`, an unrecognised opcode, a row of the table. -/
theorem stepIsTheTableStep : Obligations.StepIsTheTableStep := by
  intro s
  by_cases hr : s.rs = .running
  · cases h : optable.lookup (s.readByte s.pc) with
    | none => simp only [step_of_lookup_none hr h, stepTable, hr, h, if_true]
    | some d => simp only [step_of_lookup_some hr h, stepTable, hr, h, if_true, redirectDetect]
  · simp only [step_of_not_running hr, stepTable, hr, if_false]

end Machine
end Sys2Proof
end

/-! PROOFS. The statements on the state (`10_state.md`): who writes each piece of it, what no instruction reads, the canonical
memory, the flags of `P`, and the invariant of the machine. -/
namespace Sys2Proof.Machine

/-! ### What an instruction can do -/

/-! The instructions that are the only one of their mnemonic, or of their operand form. -/

theorem mnemonic_eq_tax {i : Instr} : i.mnemonic = .tax ↔ i = .tax := by cases i <;> simp [Instr.mnemonic]

theorem mnemonic_eq_inx {i : Instr} : i.mnemonic = .inx ↔ i = .inx := by cases i <;> simp [Instr.mnemonic]

theorem mnemonic_eq_brk {i : Instr} : i.mnemonic = .brk ↔ i = .brk := by cases i <;> simp [Instr.mnemonic]

theorem operand_eq_accumulator {i : Instr} : i.operand = .accumulator ↔ i = .aslAccumulator := by
  cases i <;> simp [Instr.operand]

/-- What the execution of an instruction can make of the state (R94, the table of R28): one case per kind of write. -/
inductive Effect (i : Instr) (s : State) : State → Prop where
  /-- AND and LDA (R110, R150) -/
  | loadsA (v : Byte) (hi : i.mnemonic = .and ∨ i.mnemonic = .lda) : Effect i s ({ s with a := v }.setZN v)
  /-- LDX, TAX, INX (R159, R190, R191) -/
  | loadsX (v : Byte) (hi : i.mnemonic = .ldx ∨ i.mnemonic = .tax ∨ i.mnemonic = .inx) :
      Effect i s ({ s with x := v }.setZN v)
  /-- LDY (R165) -/
  | loadsY (v : Byte) (hi : i.mnemonic = .ldy) : Effect i s ({ s with y := v }.setZN v)
  /-- ASL in Accumulator mode (R119) -/
  | shiftsA (v r : Byte) (hi : i.mnemonic = .asl) (ho : i.operand = .accumulator) :
      Effect i s ({ s with a := r }.setShiftFlags v r)
  /-- ASL in a memory mode (R119) -/
  | shiftsMemory (v r : Byte) (ea : Word) (hi : i.mnemonic = .asl) (hea : s.effectiveAddress i.operand = some ea) :
      Effect i s ((s.setShiftFlags v r).writeByte ea r)
  /-- STA (R171) -/
  | stores (v : Byte) (ea : Word) (hi : i.mnemonic = .sta) (hea : s.effectiveAddress i.operand = some ea) :
      Effect i s (s.writeByte ea v)
  /-- BIT (R125) -/
  | testsBits (v : Byte) (hi : i.mnemonic = .bit) : Effect i s (s.setBitFlags v)
  /-- a taken branch (R141) -/
  | branches (target : Word) (hi : i.mnemonic ∈ ([.bcc, .bcs, .beq] : List Mnemonic)) :
      Effect i s { s with pc := target, redirected := true }
  /-- a branch not taken (R141) -/
  | stays (hi : i.mnemonic ∈ ([.bcc, .bcs, .beq] : List Mnemonic)) : Effect i s s
  /-- BRK (R195) -/
  | halts (hi : i.mnemonic = .brk) : Effect i s s.haltBrk

/-- The two ends of a branch are effects of a branch instruction. -/
theorem Effect.of_branchOp {i : Instr} (hi : i.mnemonic ∈ ([.bcc, .bcs, .beq] : List Mnemonic)) (c : Bool) (b1 : Byte)
    (s : State) : Effect i s (branchOp c b1 s) := by
  obtain ⟨-, ht⟩ | ⟨-, ht⟩ := branchOp_cases c b1 s
  · rw [ht]; exact .branches _ hi
  · rw [ht]; exact .stays hi

/-- The rule of an instruction has one of the effects: its mnemonic and mode are a pair of R86, so no operand is missing. -/
theorem execute_effect (i : Instr) (s : State) : Effect i s (execute i.mnemonic i.operand s) := by
  have hv := validPair_self i
  cases hi : i.mnemonic with
  | and =>
    obtain ⟨v, -, ht⟩ | ⟨hm, -⟩ := andOp_cases i.operand s
    · rw [execute, ht]; exact .loadsA _ (.inl hi)
    · simp [hi, hm, validPair] at hv
  | lda =>
    obtain ⟨v, -, ht⟩ | ⟨hm, -⟩ := ldaOp_cases i.operand s
    · rw [execute, ht]; exact .loadsA v (.inr hi)
    · simp [hi, hm, validPair] at hv
  | ldx =>
    obtain ⟨v, -, ht⟩ | ⟨hm, -⟩ := ldxOp_cases i.operand s
    · rw [execute, ht]; exact .loadsX v (.inl hi)
    · simp [hi, hm, validPair] at hv
  | ldy =>
    obtain ⟨v, -, ht⟩ | ⟨hm, -⟩ := ldyOp_cases i.operand s
    · rw [execute, ht]; exact .loadsY v hi
    · simp [hi, hm, validPair] at hv
  | sta =>
    obtain ⟨ea, hea, ht⟩ | ⟨hm | hm, -⟩ := staOp_cases i.operand s
    · rw [execute, ht]; exact .stores _ ea hi hea
    · simp [hi, hm, validPair] at hv
    · simp [hi, hm, validPair] at hv
  | bit =>
    obtain ⟨ea, -, ht⟩ | ⟨hm | hm, -⟩ := bitOp_cases i.operand s
    · rw [execute, ht]; exact .testsBits _ hi
    · simp [hi, hm, validPair] at hv
    · simp [hi, hm, validPair] at hv
  | asl =>
    obtain ⟨ho, ht⟩ | ⟨ea, hea, ht⟩ | ⟨hm, -⟩ := aslOp_cases i.operand s
    · rw [execute, ht]; exact .shiftsA _ _ hi ho
    · rw [execute, ht]; exact .shiftsMemory _ _ ea hi hea
    · simp [hi, hm, validPair] at hv
  | tax => exact .loadsX _ (.inr (.inl hi))
  | inx => exact .loadsX _ (.inr (.inr hi))
  | brk => exact .halts hi
  | bcc => exact .of_branchOp (by simp [hi]) _ _ s
  | bcs => exact .of_branchOp (by simp [hi]) _ _ s
  | beq => exact .of_branchOp (by simp [hi]) _ _ s

/-- Whatever an instruction answers is one of its effects. -/
theorem exec_effect {i : Instr} {s t : State} (h : exec i s = .next t) : Effect i s t := by
  rw [exec_eq_execute, Host.Outcome.next.injEq] at h
  exact h ▸ execute_effect i s

/-! ### The status byte -/

/-- `SetZN` writes Zero and Negative only (R17). -/
theorem setZN_writes {s : State} {v : Byte} {n : Nat} (h : (s.setZN v).p.getLsbD n ≠ s.p.getLsbD n) :
    n = 1 ∨ n = 7 := by
  by_contra hn
  obtain ⟨h1, h7⟩ := not_or.mp hn
  exact h (by simp [State.setZN_bit, h1, h7])

/-- The flags of ASL are Carry, Zero and Negative (R119). -/
theorem setShiftFlags_writes {s : State} {v r : Byte} {n : Nat}
    (h : (s.setShiftFlags v r).p.getLsbD n ≠ s.p.getLsbD n) : n = 0 ∨ n = 1 ∨ n = 7 := by
  by_contra hn
  obtain ⟨h0, h1, h7⟩ : n ≠ 0 ∧ n ≠ 1 ∧ n ≠ 7 := by simpa using hn
  exact h (by simp [State.setShiftFlags_bit, h0, h1, h7])

/-- The flags of BIT are Zero, Overflow and Negative (R125). -/
theorem setBitFlags_writes {s : State} {v : Byte} {n : Nat} (h : (s.setBitFlags v).p.getLsbD n ≠ s.p.getLsbD n) :
    n = 6 ∨ n = 1 ∨ n = 7 := by
  by_contra hn
  obtain ⟨h6, h1, h7⟩ : n ≠ 6 ∧ n ≠ 1 ∧ n ≠ 7 := by simpa using hn
  exact h (by simp [State.setBitFlags_bit, h6, h1, h7])

/-- The mnemonics that write Zero and Negative (the table of R14). -/
def zeroNegativeWriters : List Mnemonic := [.and, .asl, .bit, .lda, .ldx, .ldy, .tax, .inx]

/-- Who writes which bit of `P`: the table of R14. -/
theorem Effect.bit_writer {i : Instr} {s t : State} (h : Effect i s t) {n : Nat}
    (hn : t.p.getLsbD n ≠ s.p.getLsbD n) :
    n = 0 ∧ i.mnemonic = .asl ∨ n = 6 ∧ i.mnemonic = .bit ∨ (n = 1 ∨ n = 7) ∧ i.mnemonic ∈ zeroNegativeWriters := by
  cases h with
  | loadsA v hi =>
    exact .inr (.inr ⟨setZN_writes hn, by rcases hi with hi | hi <;> simp [hi, zeroNegativeWriters]⟩)
  | loadsX v hi =>
    exact .inr (.inr ⟨setZN_writes hn, by rcases hi with hi | hi | hi <;> simp [hi, zeroNegativeWriters]⟩)
  | loadsY v hi => exact .inr (.inr ⟨setZN_writes hn, by simp [hi, zeroNegativeWriters]⟩)
  | shiftsA v r hi ho =>
    exact (setShiftFlags_writes hn).imp (⟨·, hi⟩) (.inr ⟨·, by simp [hi, zeroNegativeWriters]⟩)
  | shiftsMemory v r ea hi hea =>
    exact (setShiftFlags_writes hn).imp (⟨·, hi⟩) (.inr ⟨·, by simp [hi, zeroNegativeWriters]⟩)
  | testsBits v hi =>
    exact .inr ((setBitFlags_writes hn).imp (⟨·, hi⟩) (⟨·, by simp [hi, zeroNegativeWriters]⟩))
  | stores v ea hi hea => exact absurd rfl hn
  | branches target hi => exact absurd rfl hn
  | stays hi => exact absurd rfl hn
  | halts hi => exact absurd rfl hn

/-- No instruction writes bits 2 to 5 (R16, R18). -/
theorem Effect.unnamed_bits {i : Instr} {s t : State} (h : Effect i s t) (n : Nat) (h2 : 2 ≤ n) (h5 : n ≤ 5) :
    t.p.getLsbD n = s.p.getLsbD n := by
  by_contra hn
  have := h.bit_writer hn
  omega

/-- Settles O28: the writer of a changed bit, by the number of the bit. -/
theorem flagsChangeOnlyByTheirWriters : Obligations.FlagsChangeOnlyByTheirWriters := by
  intro i s t h
  have he := exec_effect h
  refine ⟨fun hn => ?_, fun hn => ?_, fun hn => ?_, he.unnamed_bits⟩
  · simpa using he.bit_writer hn
  · simpa using he.bit_writer hn
  · rcases hn with hn | hn
    · simpa [zeroNegativeWriters] using he.bit_writer hn
    · simpa [zeroNegativeWriters] using he.bit_writer hn

/-! ### Who writes the registers, the control state and memory -/

/-- An instruction with an effective address is not ASL Accumulator (R81). -/
theorem ne_aslAccumulator_of_address {i : Instr} {s : State} {ea : Word}
    (h : s.effectiveAddress i.operand = some ea) : i ≠ .aslAccumulator := by
  rintro rfl
  cases h

/-- A byte of memory is written by STA and the memory forms of ASL alone, at the effective address (R20, R28). -/
theorem Effect.byte_writer {i : Instr} {s t : State} (h : Effect i s t) {b : Word}
    (hb : t.readByte b ≠ s.readByte b) :
    (i.mnemonic = .sta ∨ i.mnemonic = .asl ∧ i ≠ .aslAccumulator) ∧ s.effectiveAddress i.operand = some b := by
  cases h with
  | stores v ea hi hea =>
    obtain rfl : b = ea := by_contra fun hne => hb (State.readByte_writeByte_ne hne)
    exact ⟨.inl hi, hea⟩
  | shiftsMemory v r ea hi hea =>
    obtain rfl : b = ea := by_contra fun hne => hb (by simp [State.readByte_writeByte_ne hne])
    exact ⟨.inr ⟨hi, ne_aslAccumulator_of_address hea⟩, hea⟩
  | _ => exact absurd (State.readByte_congr (by simp) b) hb

/-- `A` is written by AND, LDA and ASL Accumulator alone (R10, R28). -/
theorem Effect.a_writer {i : Instr} {s t : State} (h : Effect i s t) (ha : t.a ≠ s.a) :
    i.mnemonic = .and ∨ i.mnemonic = .lda ∨ i = .aslAccumulator := by
  cases h with
  | loadsA v hi => exact hi.imp_right .inl
  | shiftsA v r hi ho => exact .inr (.inr (operand_eq_accumulator.mp ho))
  | _ => simp at ha

/-- `X` is written by LDX, TAX and INX alone (R11, R28). -/
theorem Effect.x_writer {i : Instr} {s t : State} (h : Effect i s t) (hx : t.x ≠ s.x) :
    i.mnemonic = .ldx ∨ i = .tax ∨ i = .inx := by
  cases h with
  | loadsX v hi => exact hi.imp_right (.imp mnemonic_eq_tax.mp mnemonic_eq_inx.mp)
  | _ => simp at hx

/-- `Y` is written by LDY alone (R12, R28). -/
theorem Effect.y_writer {i : Instr} {s t : State} (h : Effect i s t) (hy : t.y ≠ s.y) : i.mnemonic = .ldy := by
  cases h with
  | loadsY v hi => exact hi
  | _ => simp at hy

/-- `PC` and `REDIRECTED` are written by the branches alone, after the fetch (R94, R97). -/
theorem Effect.pc_writer {i : Instr} {s t : State} (h : Effect i s t)
    (hpc : t.pc ≠ s.pc ∨ t.redirected ≠ s.redirected) : i.mnemonic ∈ ([.bcc, .bcs, .beq] : List Mnemonic) := by
  cases h with
  | branches target hi => exact hi
  | _ => simp at hpc

/-- No instruction writes the snapshot `PBD` (R92). -/
theorem Effect.pbd_kept {i : Instr} {s t : State} (h : Effect i s t) : t.pbd = s.pbd := by cases h <;> simp

/-- BRK halts with the cause BRK and writes nothing else; no other instruction writes `RS` or `HC` (R28, R195). -/
theorem Effect.run_state {i : Instr} {s t : State} (h : Effect i s t) :
    (t.rs = s.rs ∧ t.hc = s.hc) ∨ (i.mnemonic = .brk ∧ t = s.haltBrk) := by
  cases h with
  | halts hi => exact .inr ⟨hi, rfl⟩
  | _ => exact .inl (by simp)

/-- Settles O29: the writers of each piece of the state. -/
theorem stateChangesOnlyByItsWriters : Obligations.StateChangesOnlyByItsWriters := by
  intro i s t h
  have he := exec_effect h
  refine ⟨he.a_writer, he.x_writer, he.y_writer, he.pc_writer, fun hrun => ?_, he.pbd_kept, fun _ => he.byte_writer⟩
  obtain ⟨hrs, hhc⟩ | ⟨hi, -⟩ := he.run_state
  · simp [hrs, hhc] at hrun
  · exact mnemonic_eq_brk.mp hi

/-! ### What a step can do -/

/-- A step takes no step outside `Running`, raises the fatal condition at a byte that is no opcode, or has the effect of
the instruction its row stands for, between the fetch and the advance (R90 to R98). -/
theorem step_cases {s t : State} (h : step s = .next t) :
    (s.rs ≠ .running ∧ t = s) ∨
    (s.rs = .running ∧ optable.lookup (s.readByte s.pc) = none ∧
      t = s.raise (.unrecognizedOpcode (s.readByte s.pc) s.pc) s.pc) ∨
    (s.rs = .running ∧ ∃ d i u, optable.lookup (s.readByte s.pc) = some d ∧ i.mnemonic = d.mnemonic ∧
      Effect i s.beginExecution u ∧ t = u.advance redirectDetect i.length) := by
  by_cases hr : s.rs = .running
  · cases hl : optable.lookup (s.readByte s.pc) with
    | none =>
      rw [step_of_lookup_none hr hl, Host.Outcome.next.injEq] at h
      exact .inr (.inl ⟨hr, rfl, h.symm⟩)
    | some d =>
      obtain ⟨i, rest, hdec, hm, -, -⟩ := decode_fetch_some hl
      rw [step_of_decode hr hdec, Host.Outcome.next.injEq] at h
      exact .inr (.inr ⟨hr, d, i, _, rfl, hm, execute_effect i _, h.symm⟩)
  · rw [step_of_not_running hr, Host.Outcome.next.injEq] at h
    exact .inl ⟨hr, h.symm⟩

/-- Bytes that agree in bits 2 to 5 agree under their mask. -/
theorem unnamed_mask_congr {p q : Byte} (h : ∀ n, 2 ≤ n → n ≤ 5 → q.getLsbD n = p.getLsbD n) :
    q &&& 0x3C = p &&& 0x3C := by
  have mask : ∀ n < 8, (0x3C : Byte).getLsbD n = decide (2 ≤ n ∧ n ≤ 5) := by decide
  apply BitVec.eq_of_getLsbD_eq
  intro n hn
  rw [BitVec.getLsbD_and, BitVec.getLsbD_and, mask n hn]
  by_cases hb : 2 ≤ n ∧ n ≤ 5
  · rw [h n hb.1 hb.2]
  · simp [hb]

/-- Settles O30: the fatal condition leaves `P` alone, and an instruction leaves its bits 2 to 5 alone. -/
theorem unnamedStatusBitsCarried : Obligations.UnnamedStatusBitsCarried := by
  intro s t h
  obtain ⟨-, rfl⟩ | ⟨-, -, rfl⟩ | ⟨-, d, i, u, -, -, he, rfl⟩ := step_cases h
  · rfl
  · rfl
  · rw [State.advance_p]
    exact unnamed_mask_congr he.unnamed_bits

/-- The default table passes the check of R58. -/
theorem optable_wf : optable.wf = true := by decide

/-- Settles O43: by the ways a step can go, and for an instruction by whether it is BRK, whose row has opcode 0x00. -/
theorem runsEndByBrkOrUnrecognizedOpcode : Obligations.RunsEndByBrkOrUnrecognizedOpcode := by
  intro s t hrs hhc h
  obtain ⟨hr, -⟩ | ⟨-, hl, rfl⟩ | ⟨-, d, i, u, hl, hm, he, rfl⟩ := step_cases h
  · exact absurd hrs hr
  · exact .inr (.inr ⟨rfl, rfl, hl⟩)
  · obtain ⟨hurs, huhc⟩ | ⟨hi, rfl⟩ := he.run_state
    · exact .inl (by simp [hurs, huhc, hrs, hhc])
    · obtain ⟨hmem, hop⟩ := OpTable.lookup_some hl
      obtain ⟨-, -, hbrk⟩ := OpTable.wf_row optable_wf hmem
      have hzero : s.readByte s.pc = 0x00 := hop ▸ hbrk (hm ▸ hi)
      exact .inr (.inl (by simp [State.endedNormally, hzero, State.advance_pc]))

/-! ### The invariant -/

/-- Every effect keeps the canonical form of memory (R20). -/
theorem Effect.wf_mem {i : Instr} {s t : State} (h : Effect i s t) (hs : Memory.wf s.mem = true) :
    Memory.wf t.mem = true := by
  cases h with
  | stores v ea hi hea => exact State.wf_writeByte ea v hs
  | shiftsMemory v r ea hi hea => exact State.wf_writeByte ea r (by simpa using hs)
  | _ => simpa using hs

/-- The fatal condition of a byte that is no opcode keeps the invariant (R99, R201). -/
theorem State.Inv.raise {s : State} (hs : s.Inv) (hl : optable.lookup (s.readByte s.pc) = none) :
    (s.raise (.unrecognizedOpcode (s.readByte s.pc) s.pc) s.pc).Inv where
  memory := hs.memory
  status := hs.status
  cause := by simp
  fatal := by
    intro op a h
    obtain ⟨rfl, rfl⟩ := HaltCause.unrecognizedOpcode.inj h
    exact ⟨rfl, hl⟩
  supported := by simp
  noSnapshot := hs.noSnapshot
  noRedirect := hs.noRedirect

/-- The invariant of a state between steps that is not in a fatal condition: memory, status, and the cause as the run state
asks. -/
theorem State.Inv.of_not_fatal {s : State} (memory : Memory.wf s.mem = true) (status : s.p &&& 0x3C = 0)
    (cause : s.hc = .none ∧ s.rs ≠ .halted ∨ s.hc = .brk ∧ s.rs = .halted) (noSnapshot : s.pbd = none)
    (noRedirect : s.redirected = false) : s.Inv := by
  obtain ⟨hhc, hrs⟩ | ⟨hhc, hrs⟩ := cause
  · exact ⟨memory, status, by simp [hhc, hrs], by simp [hhc], by simp [hhc], noSnapshot, noRedirect⟩
  · exact ⟨memory, status, by simp [hhc, hrs], by simp [hhc], by simp [hhc], noSnapshot, noRedirect⟩

/-- Settles O38: memory by the effect, bits 2 to 5 by O30, the cause and the transients by the ways a step can go. -/
theorem everyStepKeepsTheInvariant : Obligations.EveryStepKeepsTheInvariant := by
  intro s t hs h
  have hstatus : t.p &&& 0x3C = 0 := (unnamedStatusBitsCarried s t h).trans hs.status
  obtain ⟨-, rfl⟩ | ⟨-, hl, rfl⟩ | ⟨hr, d, i, u, -, -, he, rfl⟩ := step_cases h
  · exact hs
  · exact hs.raise hl
  · have hmem : Memory.wf u.mem = true := he.wf_mem hs.memory
    have hhc : s.hc = .none := hs.cause.mpr (by simp [hr])
    refine .of_not_fatal (by simpa using hmem) hstatus ?_ (by simp) (by simp)
    obtain ⟨hurs, huhc⟩ | ⟨-, rfl⟩ := he.run_state
    · exact .inl (by simp [hurs, huhc, hhc, hr])
    · exact .inr (by simp)

/-- Settles O47: a memory with nothing listed reads 0x00 everywhere, in the reset vector too. -/
theorem resetStateIsResetOfConstruct : Obligations.ResetStateIsResetOfConstruct := by
  refine ⟨rfl, ?_, rfl, rfl, rfl, rfl, rfl, fun _ => rfl, rfl, rfl⟩
  rw [constructWith, optable_wf, if_pos rfl]

/-- The machine as constructed meets the invariant (R220). -/
theorem State.Inv.construct : State.construct.Inv :=
  .of_not_fatal rfl rfl (.inl ⟨rfl, by decide⟩) rfl rfl

/-- `reset()` keeps the invariant, whatever the run state (R221, R222). -/
theorem State.Inv.hostReset {s : State} (hs : s.Inv) : (hostReset s).Inv :=
  .of_not_fatal hs.memory (BitVec.zero_and) (.inl ⟨rfl, RunState.noConfusion⟩) hs.noSnapshot hs.noRedirect

/-- Settles O37: the reset state is `reset()` of the constructed one. -/
theorem constructAndResetMeetTheInvariant : Obligations.ConstructAndResetMeetTheInvariant :=
  ⟨.construct, resetStateIsResetOfConstruct.1 ▸ State.Inv.construct.hostReset⟩

/-- A store keeps the invariant, which asks of memory the canonical form alone. -/
theorem State.Inv.writeByte {s : State} (hs : s.Inv) (ad : Word) (v : Byte) : (s.writeByte ad v).Inv :=
  { hs with memory := State.wf_writeByte ad v hs.memory }

theorem State.Inv.writeBytes {s : State} (hs : s.Inv) (ad : Word) (bs : List Byte) : (s.writeBytes ad bs).Inv := by
  induction bs generalizing s ad with
  | nil => exact hs
  | cons b bs ih => exact ih (hs.writeByte ad b) (ad + 1)

/-- `load(bytes)` keeps the invariant (R224). -/
theorem State.Inv.load {s t : State} {bytes : List Byte} (hs : s.Inv) (h : load bytes s = some t) : t.Inv := by
  obtain ⟨-, ⟨⟩⟩ := Option.ite_none_right_eq_some.mp h
  exact ((hs.writeBytes loadOrigin bytes).writeByte _ _).writeByte _ _

/-- Settles O39, by induction on how the state is reached. -/
theorem everyReachableStateMeetsTheInvariant : Obligations.EveryReachableStateMeetsTheInvariant := by
  intro s h
  induction h with
  | construct => exact .construct
  | load bytes _ hl ih => exact ih.load hl
  | reset _ ih => exact ih.hostReset
  | step _ ht ih => exact everyStepKeepsTheInvariant _ _ ih ht

/-! ### What no instruction reads -/

/-- The advance reads nothing of `P`, and leaves it alone (R95). -/
theorem State.advance_with_p (s : State) (q : Byte) (d : RedirectDetect) (n : Nat) :
    State.advance { s with p := q } d n = { s.advance d n with p := q } := by
  by_cases h : (s.rs = .halted || s.hasRedirected d) = true
  · rw [show s.advance d n = s.endStep from if_pos h]
    exact if_pos h
  · rw [show s.advance d n = { s.endStep with pc := s.pc + (BitVec.ofNat 16 n - 1) } from if_neg h]
    exact if_neg h

/-- The two states differ in Negative and Overflow at most. -/
def AlikeButNV (s s' : State) : Prop :=
  ∃ q : Byte, (∀ n, n ≠ 6 → n ≠ 7 → q.getLsbD n = s.p.getLsbD n) ∧ s' = { s with p := q }

namespace AlikeButNV

variable {s s' : State}

/-- What does not depend on `P` reads the same in both. -/
theorem read {α : Type} (h : AlikeButNV s s') (f : State → α) (hf : ∀ s q, f { s with p := q } = f s) : f s' = f s := by
  obtain ⟨q, -, rfl⟩ := h
  exact hf s q

/-- An update that neither reads nor writes `P` keeps two states alike. -/
theorem update (h : AlikeButNV s s') (f : State → State) (hf : ∀ s q, f { s with p := q } = { f s with p := q }) :
    AlikeButNV (f s) (f s') := by
  obtain ⟨q, hq, rfl⟩ := h
  have hp : (f s).p = s.p := congrArg (·.p) (hf s s.p)
  exact ⟨q, hp ▸ hq, hf s q⟩

/-! What the rules read. -/

theorem a (h : AlikeButNV s s') : s'.a = s.a := h.read State.a fun _ _ => rfl

theorem x (h : AlikeButNV s s') : s'.x = s.x := h.read State.x fun _ _ => rfl

theorem pc (h : AlikeButNV s s') : s'.pc = s.pc := h.read State.pc fun _ _ => rfl

theorem rs (h : AlikeButNV s s') : s'.rs = s.rs := h.read State.rs fun _ _ => rfl

theorem readByte (h : AlikeButNV s s') (b : Word) : s'.readByte b = s.readByte b :=
  h.read (·.readByte b) fun _ _ => rfl

theorem operandAt (h : AlikeButNV s s') (m : Mode) : s'.operandAt m = s.operandAt m :=
  h.read (·.operandAt m) fun _ _ => rfl

theorem offsetByte (h : AlikeButNV s s') (o : Operand) : s'.offsetByte o = s.offsetByte o :=
  h.read (·.offsetByte o) fun _ _ => rfl

theorem operandValue (h : AlikeButNV s s') (o : Operand) : s'.operandValue o = s.operandValue o :=
  h.read (·.operandValue o) fun _ _ => rfl

theorem effectiveAddress (h : AlikeButNV s s') (o : Operand) : s'.effectiveAddress o = s.effectiveAddress o :=
  h.read (·.effectiveAddress o) fun _ _ => rfl

theorem opcodeAddress (h : AlikeButNV s s') : s'.opcodeAddress = s.opcodeAddress :=
  h.read State.opcodeAddress fun _ _ => rfl

/-- A flag other than Negative and Overflow tests the same. -/
theorem testFlag (h : AlikeButNV s s') {f : Flag} (h6 : f.bit ≠ 6) (h7 : f.bit ≠ 7) :
    s'.testFlag f = s.testFlag f := by
  obtain ⟨q, hq, rfl⟩ := h
  rw [State.testFlag_eq, State.testFlag_eq]
  exact hq f.bit h6 h7

/-! What the rules write. -/

theorem setA (h : AlikeButNV s s') (v : Byte) : AlikeButNV { s with a := v } { s' with a := v } :=
  h.update (fun s => { s with a := v }) fun _ _ => rfl

theorem setX (h : AlikeButNV s s') (v : Byte) : AlikeButNV { s with x := v } { s' with x := v } :=
  h.update (fun s => { s with x := v }) fun _ _ => rfl

theorem setY (h : AlikeButNV s s') (v : Byte) : AlikeButNV { s with y := v } { s' with y := v } :=
  h.update (fun s => { s with y := v }) fun _ _ => rfl

theorem writeByte (h : AlikeButNV s s') (ea : Word) (v : Byte) : AlikeButNV (s.writeByte ea v) (s'.writeByte ea v) :=
  h.update (·.writeByte ea v) fun _ _ => rfl

theorem raise (h : AlikeButNV s s') (c : HaltCause) (a0 : Word) : AlikeButNV (s.raise c a0) (s'.raise c a0) :=
  h.update (·.raise c a0) fun _ _ => rfl

theorem haltBrk (h : AlikeButNV s s') : AlikeButNV s.haltBrk s'.haltBrk :=
  h.update State.haltBrk fun _ _ => rfl

theorem beginExecution (h : AlikeButNV s s') : AlikeButNV s.beginExecution s'.beginExecution :=
  h.update State.beginExecution fun _ _ => rfl

theorem advance (h : AlikeButNV s s') (d : RedirectDetect) (n : Nat) : AlikeButNV (s.advance d n) (s'.advance d n) :=
  h.update (·.advance d n) fun s q => s.advance_with_p q d n

theorem branchOp (h : AlikeButNV s s') (c : Bool) (b1 : Byte) :
    AlikeButNV (Machine.branchOp c b1 s) (Machine.branchOp c b1 s') := by
  cases c with
  | false => exact h
  | true => exact h.update (Machine.branchOp true b1) fun _ _ => rfl

theorem writeFlag (h : AlikeButNV s s') (f : Flag) (b : Bool) : AlikeButNV (s.writeFlag f b) (s'.writeFlag f b) := by
  obtain ⟨q, hq, rfl⟩ := h
  refine ⟨(State.writeFlag { s with p := q } f b).p, fun n h6 h7 => ?_, by cases b <;> rfl⟩
  rw [State.writeFlag_bit, State.writeFlag_bit, hq n h6 h7]

theorem setZN (h : AlikeButNV s s') (v : Byte) : AlikeButNV (s.setZN v) (s'.setZN v) :=
  (h.writeFlag .zero _).writeFlag .negative _

theorem setShiftFlags (h : AlikeButNV s s') (v r : Byte) : AlikeButNV (s.setShiftFlags v r) (s'.setShiftFlags v r) :=
  (h.writeFlag .carry _).setZN r

theorem setBitFlags (h : AlikeButNV s s') (v : Byte) : AlikeButNV (s.setBitFlags v) (s'.setBitFlags v) := by
  rw [State.setBitFlags, State.setBitFlags, h.a]
  exact ((h.writeFlag .zero _).writeFlag .overflow _).writeFlag .negative _

/-! The rules. -/

theorem withOperand (h : AlikeButNV s s') (o : Operand) {k k' : Byte → State} (hk : ∀ v, AlikeButNV (k v) (k' v)) :
    AlikeButNV (s.withOperand o k) (s'.withOperand o k') := by
  rw [State.withOperand, State.withOperand, h.operandValue, h.opcodeAddress]
  cases s.operandValue o with
  | some v => exact hk v
  | none => exact h.raise _ _

theorem withAddress (h : AlikeButNV s s') (o : Operand) {k k' : Word → State} (hk : ∀ ea, AlikeButNV (k ea) (k' ea)) :
    AlikeButNV (s.withAddress o k) (s'.withAddress o k') := by
  rw [State.withAddress, State.withAddress, h.effectiveAddress, h.opcodeAddress]
  cases s.effectiveAddress o with
  | some ea => exact hk ea
  | none => exact h.raise _ _

theorem aslOp (h : AlikeButNV s s') (o : Operand) : AlikeButNV (Machine.aslOp o s) (Machine.aslOp o s') := by
  have hmem : AlikeButNV
      (s.withAddress o fun ea =>
        (s.setShiftFlags (s.readByte ea) (shiftLeft (s.readByte ea))).writeByte ea (shiftLeft (s.readByte ea)))
      (s'.withAddress o fun ea =>
        (s'.setShiftFlags (s'.readByte ea) (shiftLeft (s'.readByte ea))).writeByte ea (shiftLeft (s'.readByte ea))) := by
    simp only [h.readByte]
    exact h.withAddress o fun ea => (h.setShiftFlags _ _).writeByte ea _
  cases o with
  | accumulator =>
    simp only [Machine.aslOp, h.a]
    exact (h.setA _).setShiftFlags _ _
  | _ => exact hmem

/-- The rule of every mnemonic keeps two states alike: it reads Carry and Zero at most of `P` (R147). -/
theorem execute (h : AlikeButNV s s') (m : Mnemonic) (o : Operand) :
    AlikeButNV (Machine.execute m o s) (Machine.execute m o s') := by
  have hc : s'.testFlag .carry = s.testFlag .carry := h.testFlag (by decide) (by decide)
  have hz : s'.testFlag .zero = s.testFlag .zero := h.testFlag (by decide) (by decide)
  cases m with
  | and =>
    simp only [Machine.execute, andOp, h.a]
    exact h.withOperand o fun v => (h.setA _).setZN _
  | asl => exact h.aslOp o
  | bcc =>
    simp only [Machine.execute, hc, h.offsetByte]
    exact h.branchOp _ _
  | bcs =>
    simp only [Machine.execute, hc, h.offsetByte]
    exact h.branchOp _ _
  | beq =>
    simp only [Machine.execute, hz, h.offsetByte]
    exact h.branchOp _ _
  | bit =>
    simp only [Machine.execute, bitOp, h.readByte]
    exact h.withAddress o fun ea => h.setBitFlags _
  | lda => exact h.withOperand o fun v => (h.setA v).setZN v
  | ldx => exact h.withOperand o fun v => (h.setX v).setZN v
  | ldy => exact h.withOperand o fun v => (h.setY v).setZN v
  | tax =>
    have ht : taxOp s' = { s' with x := s.a }.setZN s.a := by rw [← h.a]; rfl
    simp only [Machine.execute, ht]
    exact (h.setX _).setZN _
  | sta =>
    simp only [Machine.execute, staOp, h.a]
    exact h.withAddress o fun ea => h.writeByte ea _
  | inx =>
    simp only [Machine.execute, inxOp, h.x]
    exact (h.setX _).setZN _
  | brk => exact h.haltBrk

/-- Two alike states step alike: the opcode and the operands are read from memory at `PC` (R98). -/
theorem stepTable (h : AlikeButNV s s') (cfg : Config) :
    AlikeButNV (Machine.stepTable cfg s) (Machine.stepTable cfg s') := by
  simp only [Machine.stepTable, executeRow, h.rs, h.pc, h.readByte, h.beginExecution.operandAt]
  split
  · split
    · exact h.raise _ _
    · exact (h.beginExecution.execute _ _).advance _ _
  · exact h

end AlikeButNV

/-- Settles O31: a step is the step over the default table, which keeps two states alike. -/
theorem negativeAndOverflowAreNeverRead : Obligations.NegativeAndOverflowAreNeverRead := by
  intro s t q hq h
  rw [stepIsTheTableStep, Host.Outcome.next.injEq] at h
  subst h
  obtain ⟨q', hq', ht'⟩ := AlikeButNV.stepTable (s' := { s with p := q }) ⟨q, hq, rfl⟩ _
  exact ⟨_, stepIsTheTableStep _, by rw [ht'], by rw [ht']; exact hq'⟩

/-! ### Canonical memory -/

/-- In a memory with rising addresses an entry is what its address reads as. -/
theorem Memory.get_of_mem {m : Memory} (hm : m.Pairwise fun c d => c.1 < d.1) {c : Host.Cell} (hc : c ∈ m) :
    Memory.get m c.1 = c.2 := by
  induction m with
  | nil => cases hc
  | cons d m ih =>
    obtain ⟨hd, hm⟩ := List.pairwise_cons.mp hm
    rcases List.mem_cons.mp hc with rfl | hc
    · simp [Memory.get]
    · simp [Memory.get, (hd c hc).ne, ih hm hc]

/-- An address that does not read as blank is listed with what it reads as. -/
theorem Memory.mem_of_get {m : Memory} {k : Nat} (h : Memory.get m k ≠ Memory.blank) : (k, Memory.get m k) ∈ m := by
  induction m with
  | nil => exact absurd rfl h
  | cons d m ih =>
    rw [Memory.get] at h ⊢
    split at h
    · next hd => simp [← hd]
    · next hd => simp [hd, ih h]

/-- The entries of a canonical memory stand in every memory that reads like it. -/
theorem Memory.subset_of_get_eq {m m' : Memory} (hm : Memory.wf m = true)
    (h : ∀ b : Word, Memory.get m b.toNat = Memory.get m' b.toNat) : m ⊆ m' := by
  intro c hc
  obtain ⟨hp, hall⟩ := (Memory.wf_iff m).mp hm
  obtain ⟨hlt, hv⟩ := hall c hc
  have hget := Memory.get_of_mem hp hc
  have heq := h (BitVec.ofNat 16 c.1)
  rw [BitVec.toNat_ofNat, Nat.mod_eq_of_lt hlt, hget] at heq
  have := Memory.mem_of_get (heq ▸ hv)
  rwa [← heq] at this

/-- Settles O34: both list the same entries, and a list with rising addresses is determined by its entries. -/
theorem canonicalMemoriesAreEqualWhenTheyReadAlike : Obligations.CanonicalMemoriesAreEqualWhenTheyReadAlike := by
  intro m m' hm hm' h
  have hp := ((Memory.wf_iff m).mp hm).1
  have hp' := ((Memory.wf_iff m').mp hm').1
  have nodup : ∀ {l : Memory}, l.Pairwise (fun c d => c.1 < d.1) → l.Nodup :=
    fun hl => hl.imp fun hlt heq => by simp [heq] at hlt
  have hperm : m.Perm m' := (List.perm_ext_iff_of_nodup (nodup hp) (nodup hp')).mpr fun c =>
    ⟨(Memory.subset_of_get_eq hm h ·), (Memory.subset_of_get_eq hm' (fun b => (h b).symm) ·)⟩
  exact hperm.eq_of_pairwise (fun c d _ _ hcd hdc => absurd (hcd.trans hdc) (lt_irrefl _)) hp hp'

/-! ### The flags -/

/-- The mask of a flag is the byte with its bit alone (R14). -/
theorem Flag.mask_eq (f : Flag) : f.mask = BitVec.ofNat 8 (2 ^ f.bit) := by cases f <;> rfl

/-- Setting and clearing a flag are the two conditional writes, so their bits are those of `writeFlag` (R15). -/
theorem State.setFlag_bit (s : State) (f : Flag) (n : Nat) :
    (s.setFlag f).p.getLsbD n = if n = f.bit then true else s.p.getLsbD n := s.writeFlag_bit f true n

theorem State.clearFlag_bit (s : State) (f : Flag) (n : Nat) :
    (s.clearFlag f).p.getLsbD n = if n = f.bit then false else s.p.getLsbD n := s.writeFlag_bit f false n

/-- Settles O35: the mask of a flag is its bit alone. -/
theorem flagPrimitivesTouchOneBit : Obligations.FlagPrimitivesTouchOneBit := by
  intro s f k hk
  obtain rfl : k = f.bit := by cases f <;> simpa [Flag.bit] using hk
  rw [← f.mask_eq]
  refine ⟨rfl, rfl, rfl, ?_, ?_, s.testFlag_eq f, fun n hn => ⟨?_, ?_⟩, fun _ => rfl⟩
  · rw [State.setFlag_bit, if_pos rfl]
  · rw [State.clearFlag_bit, if_pos rfl]
  · rw [State.setFlag_bit, if_neg hn]
  · rw [State.clearFlag_bit, if_neg hn]

end Sys2Proof.Machine

/-! PROOFS. The statements on memory (`20_memory.md`): bytes and words read after they are written, and a store seen by the
next fetch. -/
namespace Sys2Proof.Machine

/-! ### Bytes and words -/

/-- Settles O32: the read after a write, at the address and elsewhere. -/
theorem byteWriteChangesOneByte : Obligations.ByteWriteChangesOneByte := fun s ad v =>
  ⟨s.readByte_writeByte_self ad v, fun _ hb => State.readByte_writeByte_ne hb, rfl⟩

/-- A byte read after a word written (R34). -/
theorem State.readByte_writeWord (s : State) (ad v b : Word) :
    (s.writeWord ad v).readByte b =
      if b = ad + 1 then highByte v else if b = ad then lowByte v else s.readByte b := by
  simp only [State.writeWord, State.readByte_writeByte]

/-- The low byte stays under the write of the high one, whose address differs from its own at 0xFFFF too (R39). -/
theorem State.readByte_writeWord_low (s : State) (ad v : Word) : (s.writeWord ad v).readByte ad = lowByte v := by
  have hne : ad ≠ ad + 1 := by simp
  rw [State.readByte_writeWord, if_neg hne, if_pos rfl]

theorem State.readByte_writeWord_high (s : State) (ad v : Word) : (s.writeWord ad v).readByte (ad + 1) = highByte v := by
  rw [State.readByte_writeWord, if_pos rfl]

/-- A word written is read back (R33, R34). -/
theorem State.readWord_writeWord (s : State) (ad v : Word) : (s.writeWord ad v).readWord ad = v := by
  rw [State.readWord, State.readByte_writeWord_low, State.readByte_writeWord_high, wordOf_highByte_lowByte]

/-- Settles O33: the reads by definition, those after a word written by the byte at each address. -/
theorem wordsAreLittleEndianAndWrap : Obligations.WordsAreLittleEndianAndWrap := by
  intro s ad v p
  refine ⟨rfl, rfl, s.readByte_writeWord_low ad v, s.readByte_writeWord_high ad v, s.readWord_writeWord ad v,
    fun b hlow hhigh => ?_, rfl, rfl⟩
  rw [State.readByte_writeWord, if_neg hhigh, if_neg hlow]

/-! ### A store and the next fetch -/

/-- The byte a storing instruction puts at the address `ea`: `A` for STA (R171), the byte there shifted for ASL (R119). -/
def State.storedByte (s : State) (m : Mnemonic) (ea : Word) : Byte := if m = .sta then s.a else s.readByte ea <<< 1

/-- The fetch of the opcode moves the effective address of the forms alone whose operand is the byte at `PC` (R71, R72). -/
theorem State.effectiveAddress_beginExecution (s : State) {o : Operand} (himm : o.mode ≠ .immediate)
    (hrel : o.mode ≠ .relative) : s.beginExecution.effectiveAddress o = s.effectiveAddress o := by
  cases o with
  | immediate b1 => exact absurd rfl himm
  | relative b1 => exact absurd rfl hrel
  | _ => rfl

/-- STA and ASL have neither an Immediate nor a Relative form (R86). -/
theorem mode_ne_of_store {m : Mnemonic} {mode : Mode} (hv : validPair m mode = true) (hm : m = .sta ∨ m = .asl) :
    mode ≠ .immediate ∧ mode ≠ .relative := by
  rcases hm with rfl | rfl
  · constructor <;> (rintro rfl; cases hv)
  · constructor <;> (rintro rfl; cases hv)

/-- The rule of STA where the form has an address (R171). -/
theorem staOp_of_address {s : State} {o : Operand} {ea : Word} (hea : s.effectiveAddress o = some ea) :
    staOp o s = s.writeByte ea s.a := State.withAddress_of_some hea _

/-- The rule of ASL where the form has an address (R119). -/
theorem aslOp_of_address {s : State} {o : Operand} {ea : Word} (hea : s.effectiveAddress o = some ea) :
    aslOp o s =
      (s.setShiftFlags (s.readByte ea) (shiftLeft (s.readByte ea))).writeByte ea (shiftLeft (s.readByte ea)) := by
  cases o with
  | implicit => cases hea
  | accumulator => cases hea
  | _ => cases hea; rfl

/-- STA, and ASL in a memory form, store one byte, and leave the control state and every other byte alone (R119, R171). -/
theorem execute_store {i : Instr} {s : State} {ea : Word} (hi : i.mnemonic = .sta ∨ i.mnemonic = .asl)
    (hea : s.effectiveAddress i.operand = some ea) :
    ControlKept s (execute i.mnemonic i.operand s) ∧
    ∀ b, (execute i.mnemonic i.operand s).readByte b =
      if b = ea then s.storedByte i.mnemonic ea else s.readByte b := by
  rcases hi with hi | hi
  · rw [hi, execute, staOp_of_address hea]
    exact ⟨⟨rfl, rfl, rfl, rfl, rfl⟩, fun b => s.readByte_writeByte ea b _⟩
  · rw [hi, execute, aslOp_of_address hea]
    refine ⟨by simp [ControlKept], fun b => ?_⟩
    rw [State.readByte_writeByte, State.readByte_setShiftFlags]
    rfl

/-- After an instruction that neither branched nor halted, the advance puts `PC` past the whole instruction (R95). -/
theorem State.advance_pc_of_controlKept {s u : State} (hr : s.rs = .running) (hu : ControlKept s.beginExecution u)
    (n : Nat) : (u.advance redirectDetect n).pc = s.pc + BitVec.ofNat 16 n := by
  obtain ⟨hpc, hrs, -, hpbd, -⟩ := hu
  have hstays : ¬(u.rs = .halted ∨ u.hasRedirected redirectDetect = true) := by
    simp [State.hasRedirected, redirectDetect, hpc, hrs, hpbd, hr]
  rw [State.advance_pc, if_neg hstays, hpc, State.beginExecution_pc, add_assoc, add_sub_cancel]

/-- Settles O36: a fetch reads the three bytes at `PC`, and each reads after the store as the store left it. -/
theorem storeIsSeenByTheNextFetch : Obligations.StoreIsSeenByTheNextFetch := by
  intro s i rest ea hr hdec hi hea
  obtain ⟨himm, hrel⟩ := mode_ne_of_store (validPair_self i) hi
  obtain ⟨hctl, hread⟩ := execute_store hi ((s.effectiveAddress_beginExecution himm hrel).trans hea)
  refine ⟨_, step_of_decode hr hdec, ?_, State.advance_pc_of_controlKept hr hctl _, ?_⟩
  · obtain ⟨-, hrs, -⟩ := hctl
    rw [State.advance_rs, hrs, State.beginExecution_rs, hr]
  · simp only [State.fetchBytes, State.readByte_advance, hread, List.map_cons, List.map_nil]
    rfl

end Sys2Proof.Machine

/-! PROOFS. The statements on the encoding (`30_encoding.md`): encoder and decoder are inverse, the bytes a table recognises,
and what an accepted table keeps a step from doing. -/
namespace Sys2Proof

/-! ### The table -/

/-- A table recognises exactly the bytes that are opcodes of its rows (R53, R59). -/
theorem OpTable.lookup_isSome {t : OpTable} {op : Byte} :
    (t.lookup op).isSome = true ↔ op ∈ t.map Descriptor.opcode := by
  simp [OpTable.lookup]

theorem OpTable.exists_lookup {t : OpTable} {op : Byte} (h : op ∈ t.map Descriptor.opcode) :
    ∃ d, t.lookup op = some d := Option.isSome_iff_exists.mp (OpTable.lookup_isSome.mpr h)

theorem OpTable.lookup_eq_none {t : OpTable} {op : Byte} : t.lookup op = none ↔ op ∉ t.map Descriptor.opcode := by
  rw [← OpTable.lookup_isSome, Option.not_isSome_iff_eq_none]

/-- A row that is found in a part of a table whose opcodes are unique is the one found in the whole of it. -/
theorem OpTable.lookup_of_subset {t u : OpTable} (hu : u.opcodesUnique = true) (htu : t ⊆ u) {op : Byte}
    {d : Descriptor} (h : t.lookup op = some d) : u.lookup op = some d := by
  obtain ⟨hd, rfl⟩ := OpTable.lookup_some h
  exact OpTable.lookup_row hu (htu hd)

/-- The default table has, under the opcode of an instruction, the row that describes it (R56). -/
theorem optable_lookup_opcode (i : Instr) :
    optable.lookup i.opcode = some ⟨i.opcode, i.mnemonic, i.operand.mode, i.length⟩ := by
  cases i <;> rfl

/-- No two rows of the default table have the same mnemonic and mode, so an instruction has one opcode (R56). -/
theorem optable_pairs_nodup : (optable.map fun d => (d.mnemonic, d.mode)).Nodup := by decide

/-- The row of the default table for an instruction's mnemonic and mode has the instruction's opcode. -/
theorem opcode_of_optable_row {d : Descriptor} (hd : d ∈ optable) {i : Instr} (hm : d.mnemonic = i.mnemonic)
    (hmode : d.mode = i.operand.mode) : d.opcode = i.opcode := by
  obtain ⟨hi, -⟩ := OpTable.lookup_some (optable_lookup_opcode i)
  exact congrArg Descriptor.opcode (List.inj_on_of_nodup_map optable_pairs_nodup hd hi (by rw [hm, hmode]))

/-! ### Round trips -/

/-- Settles O2: the default table has unique opcodes, and a row for the instruction under its opcode. -/
theorem decodeOfEncodeIsIdentity : Obligations.DecodeOfEncodeIsIdentity := by
  intro i rest
  obtain ⟨hd, -⟩ := OpTable.lookup_some (optable_lookup_opcode i)
  exact decodeWith_row (OpTable.opcodesUnique_of_wf Machine.optable_wf) hd rfl rfl rest

/-- Bytes that decode under a table are the opcode of a row for the instruction, then its operand bytes and the rest. -/
theorem decodeWith_ok {t : OpTable} {bs rest : List Byte} {i : Instr} (h : decodeWith t bs = .ok (i, rest)) :
    ∃ d ∈ t, d.mnemonic = i.mnemonic ∧ d.mode = i.operand.mode ∧ bs = d.opcode :: (i.operand.bytes ++ rest) := by
  unfold decodeWith at h
  split at h
  · cases h
  · next op bs =>
    split at h
    · cases h
    · next d hd =>
      split at h
      · cases h
      · next o rest' ho =>
        split at h
        · cases h
        · next j hj =>
          cases h
          obtain ⟨hmem, rfl⟩ := OpTable.lookup_some hd
          obtain ⟨hmode, rfl⟩ := takeOperand_some ho
          obtain ⟨hm, rfl⟩ := assemble_some hj
          exact ⟨d, hmem, hm.symm, hmode.symm, rfl⟩

/-- Settles O3: the row the bytes decode by is the instruction's only row, so they begin with its opcode. -/
theorem decodedBytesAreTheEncoding : Obligations.DecodedBytesAreTheEncoding := by
  intro bs rest i h
  obtain ⟨d, hd, hm, hmode, rfl⟩ := decodeWith_ok h
  rw [opcode_of_optable_row hd hm hmode]
  rfl

/-! ### The recognised bytes -/

/-- A byte that is no opcode of a table is named, whatever follows it (R59). -/
theorem decodeWith_of_lookup_none {t : OpTable} {op : Byte} (h : t.lookup op = none) (bs : List Byte) :
    decodeWith t (op :: bs) = .error (.unrecognizedOpcode op) := by
  simp only [decodeWith, h]

/-- Two bytes are enough for the operand of every mode (R50). -/
theorem takeOperand_two_bytes (m : Mode) (b1 b2 : Byte) (bs : List Byte) :
    ∃ o rest, takeOperand m (b1 :: b2 :: bs) = some (o, rest) := by
  cases m <;> exact ⟨_, _, rfl⟩

/-- A pair of R86 and an operand of its mode are those of an instruction. -/
theorem exists_instr_of_validPair {m : Mnemonic} {o : Operand} (h : validPair m o.mode = true) :
    ∃ i : Instr, assemble m o = some i ∧ i.mnemonic = m ∧ i.operand = o := by
  rw [← assemble_isSome, Option.isSome_iff_exists] at h
  obtain ⟨i, hi⟩ := h
  exact ⟨i, hi, assemble_some hi⟩

/-- Under a table that passes R58 an opcode and two more bytes decode: the row's pair is one of R86. -/
theorem decodeWith_of_lookup_some {t : OpTable} (ht : t.wf = true) {op : Byte} {d : Descriptor}
    (h : t.lookup op = some d) (b1 b2 : Byte) (bs : List Byte) :
    ∃ i rest, decodeWith t (op :: b1 :: b2 :: bs) = .ok (i, rest) := by
  obtain ⟨o, rest, ho⟩ := takeOperand_two_bytes d.mode b1 b2 bs
  obtain ⟨hmode, -⟩ := takeOperand_some ho
  obtain ⟨-, hpair, -⟩ := OpTable.wf_row ht (OpTable.lookup_some h).1
  obtain ⟨i, hi, -⟩ := exists_instr_of_validPair (hmode ▸ hpair)
  exact ⟨i, rest, by simp only [decodeWith, h, ho, hi]⟩

/-- The opcodes of the default table in rising order: the list of R59. -/
theorem optable_opcodes_perm :
    (optable.map Descriptor.opcode).Perm
      [0x00, 0x06, 0x0A, 0x0E, 0x16, 0x1E, 0x21, 0x24, 0x25, 0x29, 0x2C, 0x2D, 0x31, 0x35, 0x39, 0x3D, 0x81, 0x85,
        0x8D, 0x90, 0x91, 0x95, 0x99, 0x9D, 0xA0, 0xA1, 0xA2, 0xA4, 0xA5, 0xA6, 0xA9, 0xAA, 0xAC, 0xAD, 0xAE, 0xB0,
        0xB1, 0xB4, 0xB5, 0xB6, 0xB9, 0xBC, 0xBD, 0xBE, 0xE8, 0xF0] := by decide

/-- Settles O5: the listed bytes are the opcodes of the default table, which passes R58. -/
theorem recognizedBytesAreThe46 : Obligations.RecognizedBytesAreThe46 := by
  intro op b1 b2 rest
  rw [← optable_opcodes_perm.mem_iff]
  refine ⟨fun h => ?_, fun h => decodeWith_of_lookup_none (OpTable.lookup_eq_none.mpr h) _⟩
  obtain ⟨d, hd⟩ := OpTable.exists_lookup h
  exact decodeWith_of_lookup_some Machine.optable_wf hd b1 b2 rest

/-- Settles O1: the words are encodings, which O2 decodes; 0x02 is the opcode of no row. -/
theorem specWordsDecode : Obligations.SpecWordsDecode :=
  ⟨decodeOfEncodeIsIdentity (.andImmediate 0xAA) [], decodeOfEncodeIsIdentity .aslAccumulator [],
    decodeOfEncodeIsIdentity (.bitAbsolute 0x1234) [], decodeOfEncodeIsIdentity (.bcc 0x85) [],
    decodeOfEncodeIsIdentity (.bcs 0x04) [], decodeOfEncodeIsIdentity (.beq 0x90) [],
    decodeOfEncodeIsIdentity (.ldaImmediate 0x05) [], decodeOfEncodeIsIdentity (.ldxZeroPageY 0xF0) [],
    decodeOfEncodeIsIdentity (.ldyAbsoluteX 0x8001) [], decodeOfEncodeIsIdentity (.staIndirectY 0x10) [],
    decodeOfEncodeIsIdentity .tax [], decodeOfEncodeIsIdentity .inx [], decodeOfEncodeIsIdentity .brk [],
    decodeWith_of_lookup_none rfl []⟩

/-- The 256 bytes, each once. -/
def allBytes : List Byte := (List.range 256).map (BitVec.ofNat 8)

theorem mem_allBytes (op : Byte) : op ∈ allBytes :=
  List.mem_map.mpr ⟨op.toNat, List.mem_range.mpr op.isLt, BitVec.ofNat_toNat ..⟩

theorem allBytes_nodup : allBytes.Nodup :=
  List.nodup_range.map_on fun m hm n hn h => by
    rw [List.mem_range] at hm hn
    bv_omega

/-- Where opcodes are unique, the recognised bytes are as many as the rows: they are the rows' opcodes. -/
theorem OpTable.countP_recognized {t : OpTable} (h : t.opcodesUnique = true) :
    (allBytes.countP fun op => (t.lookup op).isSome) = t.length := by
  have hperm : (allBytes.filter fun op => (t.lookup op).isSome).Perm (t.map Descriptor.opcode) :=
    (List.perm_ext_iff_of_nodup (allBytes_nodup.filter _) (of_decide_eq_true h)).mpr fun op => by
      simp [mem_allBytes, ← OpTable.lookup_isSome]
  rw [List.countP_eq_length_filter, hperm.length_eq, List.length_map]

/-- The bytes a table with unique opcodes leaves unrecognised are the others of the 256. -/
theorem OpTable.countP_unrecognized {t : OpTable} (h : t.opcodesUnique = true) :
    ((List.range 256).countP fun n => (t.lookup (BitVec.ofNat 8 n)).isNone) = 256 - t.length := by
  have hsum := List.length_eq_countP_add_countP (fun op => (t.lookup op).isSome) (l := allBytes)
  have hlen : allBytes.length = 256 := by simp [allBytes]
  have hnone : (allBytes.countP fun op => ¬(t.lookup op).isSome) =
      (List.range 256).countP fun n => (t.lookup (BitVec.ofNat 8 n)).isNone := by
    rw [allBytes, List.countP_map]
    exact List.countP_congr fun n _ => by simp
  rw [OpTable.countP_recognized h, hlen, hnone] at hsum
  omega

/-- `OPTABLE_ATTESTED` passes the check of R58. -/
theorem optableAttested_wf : optableAttested.wf = true := by decide

/-- Settles O6: the unrecognised bytes are the 256 but for one a row. -/
theorem bothTablesPassTheCheck : Obligations.BothTablesPassTheCheck :=
  ⟨Machine.optable_wf, optableAttested_wf, rfl, rfl,
    OpTable.countP_unrecognized (OpTable.opcodesUnique_of_wf Machine.optable_wf),
    OpTable.countP_unrecognized (OpTable.opcodesUnique_of_wf optableAttested_wf)⟩

namespace Machine

/-! ### The step over a table -/

theorem stepTable_of_not_running {cfg : Config} {s : State} (hr : s.rs ≠ .running) : stepTable cfg s = s := by
  simp only [stepTable, hr, if_false]

theorem stepTable_of_lookup_none {cfg : Config} {s : State} (hr : s.rs = .running)
    (h : cfg.optable.lookup (s.readByte s.pc) = none) :
    stepTable cfg s = s.raise (.unrecognizedOpcode (s.readByte s.pc) s.pc) s.pc := by
  simp only [stepTable, hr, h, if_true]

theorem stepTable_of_lookup_some {cfg : Config} {s : State} {d : Descriptor} (hr : s.rs = .running)
    (h : cfg.optable.lookup (s.readByte s.pc) = some d) :
    stepTable cfg s = (executeRow d s).advance cfg.redirect d.length := by
  simp only [stepTable, hr, h, if_true]

/-- A row whose pair is one of R86 has the effect of an instruction. -/
theorem executeRow_effect {d : Descriptor} (h : validPair d.mnemonic d.mode = true) (s : State) :
    ∃ i, Effect i s.beginExecution (executeRow d s) := by
  rw [← State.operandAt_mode s.beginExecution d.mode] at h
  obtain ⟨i, -, hm, ho⟩ := exists_instr_of_validPair h
  exact ⟨i, by rw [executeRow, ← hm, ← ho]; exact execute_effect i _⟩

/-- Settles O40: the row of an accepted table has the effect of an instruction, which keeps the cause or halts by BRK. -/
theorem unsupportedModeIsUnreachable : Obligations.UnsupportedModeIsUnreachable := by
  intro cfg s hwf hs m
  by_cases hr : s.rs = .running
  · cases hl : cfg.optable.lookup (s.readByte s.pc) with
    | none => simp [stepTable_of_lookup_none hr hl]
    | some d =>
      obtain ⟨-, hpair, -⟩ := OpTable.wf_row hwf (OpTable.lookup_some hl).1
      obtain ⟨i, he⟩ := executeRow_effect hpair s
      rw [stepTable_of_lookup_some hr hl, State.advance_hc]
      obtain ⟨-, hhc⟩ | ⟨-, ht⟩ := he.run_state
      · rw [hhc]
        exact hs m
      · simp [ht]
  · rw [stepTable_of_not_running hr]
    exact hs m

/-- Settles O50: a row of the attested table is the default table's row of its opcode, and the step runs that row. -/
theorem attestedTableIsASubTable : Obligations.AttestedTableIsASubTable := by
  intro rd s hr
  have hsub : optableAttested ⊆ optable := by decide
  refine ⟨fun h => ?_, fun h => stepTable_of_lookup_none hr (OpTable.lookup_eq_none.mpr h)⟩
  obtain ⟨d, hd⟩ := OpTable.exists_lookup (t := optableAttested) h
  have hd' := OpTable.lookup_of_subset (OpTable.opcodesUnique_of_wf optable_wf) hsub hd
  rw [stepTable_of_lookup_some (cfg := ⟨optableAttested, rd⟩) hr hd,
    stepTable_of_lookup_some (cfg := ⟨optable, rd⟩) hr hd']

end Machine
end Sys2Proof

/-! PROOFS. The statement on the addressing-mode resolver (`40_addressing_modes.md`): the effective address and the operand
value of every mode. -/
namespace Sys2Proof.Machine

/-- A mode other than Accumulator and Implicit has an effective address (R70). -/
theorem State.exists_effectiveAddress_operandAt (s : State) {m : Mode} (hacc : m ≠ .accumulator) (himp : m ≠ .implicit) :
    ∃ ea, s.effectiveAddress (s.operandAt m) = some ea :=
  Option.isSome_iff_exists.mp (by simp [State.effectiveAddress_isSome, hacc, himp])

/-- The operand value is the byte at the effective address; the bytes of Immediate and Relative, which the operand form
carries, are the byte at `PC` (R71, R72, R83). -/
theorem State.operandValue_operandAt (s : State) {m : Mode} (hacc : m ≠ .accumulator) :
    s.operandValue (s.operandAt m) = (s.effectiveAddress (s.operandAt m)).map s.readByte := by
  cases m with
  | accumulator => exact absurd rfl hacc
  | _ => rfl

/-- Settles O12: each address is the resolver's line for the mode, and the value is the byte read there. -/
theorem resolverFollowsThePseudocode : Obligations.ResolverFollowsThePseudocode := by
  intro s
  refine ⟨rfl, rfl, rfl, rfl, rfl, rfl, rfl, rfl, rfl, rfl, rfl, rfl, rfl, rfl, fun m hacc himp => ?_⟩
  obtain ⟨ea, hea⟩ := s.exists_effectiveAddress_operandAt hacc himp
  exact ⟨ea, hea, by rw [s.operandValue_operandAt hacc, hea, Option.map_some]⟩

end Sys2Proof.Machine

/-! PROOFS. The statements on the step (`41_step_cycle.md`): the fetch and the advance around an instruction, `PC` after every
kind of step, the two settings of `REDIRECT_DETECT`, and the run under fuel. -/
namespace Sys2Proof.Machine

/-! ### The step -/

/-- Settles O8, by the condition of R90. -/
theorem noStepOutsideRunning : Obligations.NoStepOutsideRunning := fun _ => step_of_not_running

/-- Settles O9: the fatal condition is raised with `PC` where it is. -/
theorem unrecognizedOpcodeHalts : Obligations.UnrecognizedOpcodeHalts := fun _ => step_of_lookup_none

/-- Settles O24: an instruction answers what its rule makes, a step what the step over the default table makes. -/
theorem everyInstructionCompletes : Obligations.EveryInstructionCompletes :=
  ⟨fun i s => ⟨_, exec_eq_execute i s⟩, fun s => ⟨_, stepIsTheTableStep s⟩⟩

/-- `PC` differs from its snapshot, or there is none (R96). -/
theorem State.hasRedirected_pcCompare (s : State) : s.hasRedirected .pcCompare = true ↔ s.pbd ≠ some s.pc := by
  simp [State.hasRedirected]

/-- The advance writes `PC` and ends the transients (R23, R95). -/
theorem State.advance_eq (s : State) (d : RedirectDetect) (n : Nat) :
    s.advance d n =
      { s with
        pc := if s.rs = .halted ∨ s.hasRedirected d = true then s.pc else s.pc + (BitVec.ofNat 16 n - 1)
        pbd := none
        redirected := false } := by
  rw [← State.advance_pc]
  unfold State.advance
  split <;> rfl

/-- Settles O7: the step is the rule between the fetch and the advance. -/
theorem stepRunsTheDecodedInstruction : Obligations.StepRunsTheDecodedInstruction := by
  intro s t i rest hr hdec ht
  have hu : execute i.mnemonic i.operand s.beginExecution = t :=
    Host.Outcome.next.inj ((exec_eq_execute i s.beginExecution).symm.trans ht)
  rw [step_of_decode hr hdec, hu, State.advance_eq]
  simp only [redirectDetect, State.hasRedirected_pcCompare]

/-! ### What a rule does to the control state, over any table -/

/-- The offset byte is the byte at `PC`, whatever mode the row of a branch has (R141). -/
theorem State.offsetByte_operandAt (s : State) (m : Mode) : s.offsetByte (s.operandAt m) = s.readByte s.pc := by
  cases m <;> rfl

/-- The rule of a branch takes it where its condition holds (R141 to R144). -/
theorem execute_branch {m : Mnemonic} (hm : m ∈ ([.bcc, .bcs, .beq] : List Mnemonic)) (o : Operand) (s : State) :
    ∃ c, execute m o s = branchOp c (s.offsetByte o) s ∧ (c = true ↔ TakesBranch m s) := by
  simp only [List.mem_cons, List.not_mem_nil, or_false] at hm
  rcases hm with rfl | rfl | rfl <;> exact ⟨_, rfl, by simp [TakesBranch, State.testFlag_eq, Flag.bit]⟩

theorem TakesBranch.mem {m : Mnemonic} {s : State} (h : TakesBranch m s) :
    m ∈ ([.bcc, .bcs, .beq] : List Mnemonic) := by
  rcases h with ⟨rfl, -⟩ | ⟨rfl, -⟩ | ⟨rfl, -⟩ <;> simp

theorem TakesBranch.execute_eq {m : Mnemonic} {s : State} (h : TakesBranch m s) (o : Operand) :
    execute m o s = branchOp true (s.offsetByte o) s := by
  obtain ⟨c, he, hc⟩ := execute_branch h.mem o s
  rw [he, hc.mpr h]

/-- A branch whose condition does not hold changes nothing (R141). -/
theorem execute_of_branch_not_taken {m : Mnemonic} {s : State} (hm : m ∈ ([.bcc, .bcs, .beq] : List Mnemonic))
    (h : ¬TakesBranch m s) (o : Operand) : execute m o s = s := by
  obtain ⟨c, he, hc⟩ := execute_branch hm o s
  obtain rfl : c = false := Bool.eq_false_iff.mpr fun h' => h (hc.mp h')
  exact he

theorem ControlKept.refl (s : State) : ControlKept s s := ⟨rfl, rfl, rfl, rfl, rfl⟩

/-- A rule that is no branch halts the core or leaves the control state alone, in any mode (R94, R202). -/
theorem execute_of_not_branch {m : Mnemonic} (hm : m ∉ ([.bcc, .bcs, .beq] : List Mnemonic)) (o : Operand) (s : State) :
    (execute m o s).rs = .halted ∨ ControlKept s (execute m o s) := by
  cases m with
  | and => obtain ⟨v, -, ht⟩ | ⟨-, ht⟩ := andOp_cases o s <;> simp [execute, ht, ControlKept]
  | lda => obtain ⟨v, -, ht⟩ | ⟨-, ht⟩ := ldaOp_cases o s <;> simp [execute, ht, ControlKept]
  | ldx => obtain ⟨v, -, ht⟩ | ⟨-, ht⟩ := ldxOp_cases o s <;> simp [execute, ht, ControlKept]
  | ldy => obtain ⟨v, -, ht⟩ | ⟨-, ht⟩ := ldyOp_cases o s <;> simp [execute, ht, ControlKept]
  | sta => obtain ⟨ea, -, ht⟩ | ⟨-, ht⟩ := staOp_cases o s <;> simp [execute, ht, ControlKept]
  | bit => obtain ⟨ea, -, ht⟩ | ⟨-, ht⟩ := bitOp_cases o s <;> simp [execute, ht, ControlKept]
  | asl => obtain ⟨-, ht⟩ | ⟨ea, -, ht⟩ | ⟨-, ht⟩ := aslOp_cases o s <;> simp [execute, ht, ControlKept]
  | tax => exact .inr (by simp [execute, taxOp, ControlKept])
  | inx => exact .inr (by simp [execute, inxOp, ControlKept])
  | brk => exact .inl rfl
  | bcc | bcs | beq => simp at hm

/-- Only a taken branch moves `PC` in a core that goes on (R94, R141). -/
theorem execute_of_not_takesBranch {m : Mnemonic} {s : State} (h : ¬TakesBranch m s) (o : Operand) :
    (execute m o s).rs = .halted ∨ ControlKept s (execute m o s) := by
  by_cases hm : m ∈ ([.bcc, .bcs, .beq] : List Mnemonic)
  · rw [execute_of_branch_not_taken hm h]
    exact .inr (.refl s)
  · exact execute_of_not_branch hm o s

/-! ### The taken branch and the two settings -/

/-- The displacement of an offset byte is -1 for 0x81 alone (R140). -/
theorem branchTarget_eq_pred (w : Word) (b1 : Byte) : branchTarget (w + 1) b1 = w ↔ b1 = 0x81 := by
  have hneg : ∀ b : Byte, b.getLsbD 7 = true → (offsetMagnitude b = 1 ↔ b = 0x81) := by decide
  have hpos : ∀ b : Byte, b.getLsbD 7 ≠ true → 1 + offsetMagnitude b ≠ 0 ∧ b ≠ 0x81 := by decide
  by_cases h : b1.getLsbD 7 = true
  · rw [branchTarget, if_pos h, ← hneg b1 h, add_sub_assoc, add_eq_left, sub_eq_zero, eq_comm]
  · obtain ⟨hne, hb⟩ := hpos b1 h
    rw [branchTarget, if_neg h, add_assoc, add_eq_left]
    exact iff_of_false hne hb

/-- A taken branch shows to `pc_compare` unless its target is the snapshot (R96). -/
theorem hasRedirected_pcCompare_branchOp (s : State) (b1 : Byte) :
    (branchOp true b1 s.beginExecution).hasRedirected .pcCompare = true ↔ b1 ≠ 0x81 := by
  rw [State.hasRedirected_pcCompare]
  exact not_congr (Option.some_inj.trans (eq_comm.trans (branchTarget_eq_pred (s.pc + 1) b1)))

/-- A taken branch reports itself (R97). -/
theorem hasRedirected_explicit_branchOp (s : State) (b1 : Byte) :
    (branchOp true b1 s.beginExecution).hasRedirected .explicit = true := rfl

/-- An instruction that keeps the control state redirects under neither setting (R96, R97). -/
theorem hasRedirected_of_controlKept {s u : State} (h : ControlKept s.beginExecution u) (d : RedirectDetect) :
    u.hasRedirected d = false := by
  obtain ⟨hpc, -, -, hpbd, hred⟩ := h
  cases d with
  | pcCompare => simp [State.hasRedirected, hpc, hpbd]
  | explicit => exact hred

/-- The advance reads the setting only where the core goes on, and of it only the answer (R95). -/
theorem State.advance_congr {s : State} {d d' : RedirectDetect}
    (h : s.rs = .halted ∨ s.hasRedirected d = s.hasRedirected d') (n : Nat) : s.advance d n = s.advance d' n := by
  rw [State.advance_eq, State.advance_eq]
  rcases h with h | h
  · simp [h]
  · rw [h]

/-- Settles O27: a taken branch redirects under both settings, and what is none halts or redirects under neither. -/
theorem redirectSettingsAgreeElsewhere : Obligations.RedirectSettingsAgreeElsewhere := by
  intro tb s hoff
  by_cases hr : s.rs = .running
  · cases hl : tb.lookup (s.readByte s.pc) with
    | none => rw [stepTable_of_lookup_none hr hl, stepTable_of_lookup_none hr hl]
    | some d =>
      rw [stepTable_of_lookup_some hr hl, stepTable_of_lookup_some hr hl]
      apply State.advance_congr
      by_cases hb : TakesBranch d.mnemonic s.beginExecution
      · have hne : s.beginExecution.readByte (s.pc + 1) ≠ 0x81 := hoff d hl hb
        rw [executeRow, hb.execute_eq, State.offsetByte_operandAt]
        exact .inr ((hasRedirected_pcCompare_branchOp s _).mpr hne)
      · exact (execute_of_not_takesBranch hb _).imp_right fun h => by
          rw [executeRow, hasRedirected_of_controlKept h, hasRedirected_of_controlKept h]
  · rw [stepTable_of_not_running hr, stepTable_of_not_running hr]

/-- A taken branch with displacement -1 leaves `PC` where it found it (R145). -/
theorem branchOp_minus_one (s : State) : branchOp true 0x81 s = { s with redirected := true } := by
  have hpc : branchTarget (s.pc + 1) 0x81 = s.pc := (branchTarget_eq_pred s.pc 0x81).mpr rfl
  simp only [branchOp, if_true, hpc]

/-- A core that redirected only ends the step (R95). -/
theorem State.advance_of_redirected {s : State} {d : RedirectDetect} (h : s.hasRedirected d = true) (n : Nat) :
    s.advance d n = s.endStep := if_pos (by simp [h])

/-- Under `pc_compare` the advance takes a core with displacement -1 past the branch, as if not taken (R96, R145). -/
theorem advance_pcCompare_minus_one {s : State} (hr : s.rs = .running) :
    (branchOp true 0x81 s.beginExecution).advance .pcCompare 2 =
      { s with pc := s.pc + 2, pbd := none, redirected := false } := by
  rw [branchOp_minus_one]
  simp [State.advance_eq, State.hasRedirected_pcCompare, hr, BitVec.add_assoc]

/-- Under `explicit` a core with displacement -1 stays at its offset byte (R97, R145). -/
theorem advance_explicit_minus_one (s : State) :
    (branchOp true 0x81 s.beginExecution).advance .explicit 2 =
      { s with pc := s.pc + 1, pbd := none, redirected := false } := by
  rw [State.advance_of_redirected (hasRedirected_explicit_branchOp s 0x81), branchOp_minus_one]
  rfl

/-- A branch has the Relative mode in an accepted table (R58, R86). -/
theorem TakesBranch.mode_eq {m : Mnemonic} {s : State} (h : TakesBranch m s) {mode : Mode}
    (hv : validPair m mode = true) : mode = .relative := by
  cases mode with
  | relative => rfl
  | _ => obtain ⟨rfl, -⟩ | ⟨rfl, -⟩ | ⟨rfl, -⟩ := h <;> cases hv

/-- Settles O26: the row of a taken branch is a taken branch of two bytes, whose displacement is -1. -/
theorem displacementMinusOneCorner : Obligations.DisplacementMinusOneCorner := by
  intro tb d s hwf hr hl hb hoff
  obtain ⟨hlen, hpair, -⟩ := OpTable.wf_row hwf (OpTable.lookup_some hl).1
  have hlen2 : d.length = 2 := by rw [hlen, hb.mode_eq hpair]; rfl
  have hrow : executeRow d s = branchOp true 0x81 s.beginExecution := by
    have hb' : TakesBranch d.mnemonic s.beginExecution := hb
    have hoff' : s.beginExecution.readByte (s.pc + 1) = 0x81 := hoff
    rw [executeRow, hb'.execute_eq, State.offsetByte_operandAt, State.beginExecution_pc, hoff']
  rw [stepTable_of_lookup_some hr hl, stepTable_of_lookup_some hr hl, hrow, hlen2]
  exact ⟨advance_pcCompare_minus_one hr, advance_explicit_minus_one s⟩

/-! ### `PC` after a step -/

/-- An instruction that is neither a branch nor BRK keeps the control state (R94). -/
theorem Effect.controlKept {i : Instr} {s t : State} (h : Effect i s t)
    (hi : i.mnemonic ∉ ([.bcc, .bcs, .beq] : List Mnemonic)) (hb : i.mnemonic ≠ .brk) : ControlKept s t := by
  cases h with
  | branches target hi' => exact absurd hi' hi
  | halts hi' => exact absurd hi' hb
  | _ => simp [ControlKept]

/-- BRK leaves `PC` one past its opcode (R195). -/
theorem State.advance_haltBrk_pc (s : State) (n : Nat) :
    (s.beginExecution.haltBrk.advance redirectDetect n).pc = s.pc + 1 := by
  simp [State.advance_pc]

/-- After an instruction that is no branch `PC` is past it (R95). -/
theorem pc_after_not_branch {s : State} (hr : s.rs = .running) {i : Instr}
    (hi : i.mnemonic ∉ ([.bcc, .bcs, .beq] : List Mnemonic)) :
    ((execute i.mnemonic i.operand s.beginExecution).advance redirectDetect i.length).pc =
      s.pc + BitVec.ofNat 16 i.length := by
  by_cases hb : i.mnemonic = .brk
  · obtain rfl := mnemonic_eq_brk.mp hb
    exact s.advance_haltBrk_pc _
  · exact State.advance_pc_of_controlKept hr ((execute_effect i _).controlKept hi hb) _

/-- After a taken branch `PC` is at its target, or past the branch where the displacement is -1 (R96, R141, R145). -/
theorem pc_after_taken {s : State} (hr : s.rs = .running) (b1 : Byte) :
    ((branchOp true b1 s.beginExecution).advance redirectDetect 2).pc =
      if b1 = 0x81 then s.pc + 2 else branchTarget (s.pc + 2) b1 := by
  by_cases h : b1 = 0x81
  · rw [if_pos h, h, redirectDetect, advance_pcCompare_minus_one hr]
  · rw [if_neg h, redirectDetect, State.advance_of_redirected ((hasRedirected_pcCompare_branchOp s b1).mpr h)]
    exact congrArg (branchTarget · b1) (add_assoc s.pc 1 1)

/-- The operand form Relative is that of the branches (R86). -/
theorem mem_branches_of_relative {i : Instr} {b1 : Byte} (h : i.operand = .relative b1) :
    i.mnemonic ∈ ([.bcc, .bcs, .beq] : List Mnemonic) ∧ i.length = 2 := by
  cases i with
  | bcc | bcs | beq => exact ⟨by simp [Instr.mnemonic], rfl⟩
  | _ => simp [Instr.operand] at h

/-- Settles O10: by the kind of instruction, and for a branch by its condition. -/
theorem pcAfterEveryKindOfStep : Obligations.PcAfterEveryKindOfStep := by
  intro s hr
  refine ⟨fun i rest hdec =>
    ⟨_, step_of_decode hr hdec, pc_after_not_branch hr, ?_, fun b1 h => ?_, fun b1 h => ?_⟩, fun h => ?_⟩
  · rintro rfl
    exact ⟨s.advance_haltBrk_pc _, State.advance_rs ..⟩
  · obtain ⟨ho, hb⟩ : i.operand = .relative b1 ∧ ¬TakesBranch i.mnemonic s.beginExecution := by
      rcases h with ⟨rfl, hc⟩ | ⟨rfl, hc⟩ | ⟨rfl, hc⟩ <;>
        exact ⟨rfl, by simpa [TakesBranch, Instr.mnemonic] using hc⟩
    obtain ⟨hm, hlen⟩ := mem_branches_of_relative ho
    rw [execute_of_branch_not_taken hm hb, hlen]
    exact State.advance_pc_of_controlKept hr (.refl _) 2
  · obtain ⟨ho, hb⟩ : i.operand = .relative b1 ∧ TakesBranch i.mnemonic s.beginExecution := by
      rcases h with ⟨rfl, hc⟩ | ⟨rfl, hc⟩ | ⟨rfl, hc⟩
      · exact ⟨rfl, .inl ⟨rfl, hc⟩⟩
      · exact ⟨rfl, .inr (.inl ⟨rfl, hc⟩)⟩
      · exact ⟨rfl, .inr (.inr ⟨rfl, hc⟩)⟩
    obtain ⟨-, hlen⟩ := mem_branches_of_relative ho
    rw [hb.execute_eq, ho, hlen]
    exact pc_after_taken hr b1
  · have hl : optable.lookup (s.readByte s.pc) = none := by
      by_contra hne
      obtain ⟨d, hd⟩ := Option.ne_none_iff_exists'.mp hne
      obtain ⟨i, rest, hdec, -⟩ := decode_fetch_some hd
      exact h i rest hdec
    exact ⟨_, step_of_lookup_none hr hl, rfl, rfl⟩

/-! ### The run under fuel -/

/-- One step, then as many as are left. -/
theorem coreRun_succ {s u : State} (h : step s = .next u) (k : Nat) :
    Sys2Proof.core.run (k + 1) s = Sys2Proof.core.run k u := by
  have h' : Sys2Proof.core.step s = .next u := h
  simp only [Host.Core.run, h']

/-- A core that is not running stays as it is (R90, R205). -/
theorem coreRun_of_not_running {s : State} (h : s.rs ≠ .running) (k : Nat) : Sys2Proof.core.run k s = .next s := by
  induction k with
  | zero => rfl
  | succ k ih => rw [coreRun_succ (step_of_not_running h), ih]

/-- The machine can take any number of steps (R99, R200). -/
theorem exists_coreRun (k : Nat) (s : State) : ∃ t : State, Sys2Proof.core.run k s = .next t := by
  induction k generalizing s with
  | zero => exact ⟨s, rfl⟩
  | succ k ih =>
    rw [coreRun_succ (stepIsTheTableStep s)]
    exact ih _

/-- Steps in two parts are the steps of both. -/
theorem coreRun_add {j : Nat} {s u : State} (h : Sys2Proof.core.run j s = .next u) (k : Nat) :
    Sys2Proof.core.run (j + k) s = Sys2Proof.core.run k u := by
  induction j generalizing s with
  | zero =>
    obtain rfl : s = u := Host.Outcome.next.inj h
    rw [Nat.zero_add]
  | succ j ih =>
    have hs := stepIsTheTableStep s
    rw [coreRun_succ hs] at h
    rw [Nat.succ_add, coreRun_succ hs, ih h]

/-- A halted state is the one after a number of steps exactly when that many steps or fewer come to it (R205). -/
theorem coreRun_eq_halted {k : Nat} {s t : State} (ht : t.rs = .halted) :
    Sys2Proof.core.run k s = .next t ↔ ∃ j, j ≤ k ∧ Sys2Proof.core.run j s = .next t := by
  refine ⟨fun h => ⟨k, le_rfl, h⟩, fun ⟨j, hj, h⟩ => ?_⟩
  rw [← Nat.add_sub_cancel' hj, coreRun_add h, coreRun_of_not_running (by simp [ht])]

/-- What a run that ends in a state reports (R102, R227, D22). -/
def State.report (t : State) : RunResult :=
  match t.rs with
  | .halted => .halted t.hc t
  | .reset => .notRunning t
  | .running => .outOfFuel t

theorem State.report_eq_halted {u t : State} {c : HaltCause} :
    u.report = .halted c t ↔ (t.rs = .halted ∧ t.hc = c) ∧ u = t := by
  constructor
  · intro h
    cases hr : u.rs <;> simp only [State.report, hr, reduceCtorEq] at h
    obtain ⟨rfl, rfl⟩ := RunResult.halted.inj h
    exact ⟨⟨hr, rfl⟩, rfl⟩
  · rintro ⟨⟨hr, rfl⟩, rfl⟩
    simp only [State.report, hr]

theorem State.report_eq_outOfFuel {u t : State} : u.report = .outOfFuel t ↔ t.rs = .running ∧ u = t := by
  constructor
  · intro h
    cases hr : u.rs <;> simp only [State.report, hr, reduceCtorEq] at h
    obtain rfl := RunResult.outOfFuel.inj h
    exact ⟨hr, rfl⟩
  · rintro ⟨hr, rfl⟩
    simp only [State.report, hr]

/-- Without steps, a run reports the state it is called in. -/
theorem run_eq_report {fuel : Nat} {s : State} (h : s.rs ≠ .running ∨ fuel = 0) : run fuel s = s.report := by
  cases hr : s.rs with
  | halted => cases fuel <;> simp only [run, State.report, hr]
  | reset => cases fuel <;> simp only [run, State.report, hr]
  | running =>
    obtain rfl := h.resolve_left (absurd hr)
    simp only [run, State.report, hr]

theorem run_succ {s u : State} (hr : s.rs = .running) (h : step s = .next u) (n : Nat) : run (n + 1) s = run n u := by
  simp only [run, hr, h]

/-- A fuelled run reports the state that as many steps as its fuel come to (R102). -/
theorem run_of_coreRun {fuel : Nat} {s u : State} (h : Sys2Proof.core.run fuel s = .next u) :
    run fuel s = u.report := by
  induction fuel generalizing s with
  | zero =>
    obtain rfl : s = u := Host.Outcome.next.inj h
    exact run_eq_report (.inr rfl)
  | succ n ih =>
    by_cases hr : s.rs = .running
    · have hs := stepIsTheTableStep s
      rw [coreRun_succ hs] at h
      rw [run_succ hr hs, ih h]
    · rw [coreRun_of_not_running hr] at h
      obtain rfl : s = u := Host.Outcome.next.inj h
      exact run_eq_report (.inl hr)

/-- Settles O45: the run reports the state after as many steps as its fuel, which a halted state once reached is. -/
theorem runReportsTheHaltCause : Obligations.RunReportsTheHaltCause := by
  intro fuel s t c
  obtain ⟨u, hu⟩ := exists_coreRun fuel s
  have heq : u = t ↔ Sys2Proof.core.run fuel s = .next t := by
    rw [hu]
    exact ⟨congrArg _, Host.Outcome.next.inj⟩
  refine ⟨?_, ?_, fun hr => ?_⟩
  · rw [run_of_coreRun hu, State.report_eq_halted, heq, ← and_assoc]
    exact and_congr_right fun ht => coreRun_eq_halted ht.1
  · rw [run_of_coreRun hu, State.report_eq_outOfFuel, heq]
  · rw [run_eq_report (.inl (by simp [hr])), State.report, hr]

end Sys2Proof.Machine

/-! PROOFS. The statements on the logical and shift instructions AND, ASL, BIT (`42_logic_shift.md`). -/
namespace Sys2Proof.Machine

/-! ### The flags they leave -/

/-- `SetZN` leaves Zero and Negative of the value, and every other bit as it was in a state with the same `P` (R17). -/
theorem zeroNegativeFrom_setZN {s u : State} (hp : u.p = s.p) (v : Byte) : ZeroNegativeFrom v s (u.setZN v) := by
  refine ⟨u.setZN_bit v 1, u.setZN_bit v 7, fun n h1 h7 => ?_⟩
  rw [State.setZN_bit, if_neg h7, if_neg h1, hp]

/-- The flags of a shift, in a state with the same `P` (R119). -/
theorem shiftFlags_setShiftFlags {s u : State} (hp : u.p = s.p) (v : Byte) :
    ShiftFlags v s (u.setShiftFlags v (shiftLeft v)) := by
  refine ⟨u.setShiftFlags_bit v _ 0, u.setShiftFlags_bit v _ 1, u.setShiftFlags_bit v _ 7, fun n h0 h1 h7 => ?_⟩
  rw [State.setShiftFlags_bit, if_neg h7, if_neg h1, if_neg h0, hp]

/-! ### AND -/

/-- `A` written together with its Zero and Negative changes nothing else. -/
theorem setsA_setZN (s : State) (v : Byte) : SetsA v s (.next ({ s with a := v }.setZN v)) :=
  ⟨_, rfl, State.setZN_a .., zeroNegativeFrom_setZN rfl v, State.setZN_x .., State.setZN_y ..,
    State.readByte_setZN _ v, by simp [ControlKept]⟩

/-- AND in any form that has an operand value (R110). -/
theorem exec_and {i : Instr} (hi : i.mnemonic = .and) {s : State} {v : Byte} (hv : s.operandValue i.operand = some v) :
    SetsA (s.a &&& v) s (exec i s) := by
  rw [exec_eq_execute, hi, execute, andOp, State.withOperand_of_some hv]
  exact setsA_setZN s _

/-- Settles O13: each form has the operand value written for it (R111 to R118). -/
theorem andCompletes : Obligations.AndCompletes := fun _ _ _ =>
  ⟨exec_and rfl rfl, exec_and rfl rfl, exec_and rfl rfl, exec_and rfl rfl, exec_and rfl rfl, exec_and rfl rfl,
    exec_and rfl rfl, exec_and rfl rfl⟩

/-! ### ASL -/

/-- ASL in any form that has an effective address (R119). -/
theorem exec_asl {i : Instr} (hi : i.mnemonic = .asl) {s : State} {ea : Word}
    (hea : s.effectiveAddress i.operand = some ea) : ShiftsAt ea s (exec i s) := by
  rw [exec_eq_execute, hi, execute, aslOp_of_address hea]
  refine ⟨_, rfl, State.readByte_writeByte_self .., shiftFlags_setShiftFlags rfl _, fun b hb => ?_, ?_⟩
  · rw [State.readByte_writeByte_ne hb, State.readByte_setShiftFlags]
  · simp [ControlKept]

/-- Settles O14: Accumulator mode shifts `A`, each other form the byte at its address (R120 to R124). -/
theorem aslCompletes : Obligations.AslCompletes := by
  refine fun s _ _ => ⟨⟨_, rfl, ?_⟩, exec_asl rfl rfl, exec_asl rfl rfl, exec_asl rfl rfl, exec_asl rfl rfl⟩
  exact ⟨State.setShiftFlags_a .., shiftFlags_setShiftFlags rfl s.a, State.setShiftFlags_x .., State.setShiftFlags_y ..,
    State.readByte_setShiftFlags _ _ _, by simp [aslOp, ControlKept]⟩

/-! ### BIT -/

/-- BIT in any form that has an effective address (R125). -/
theorem exec_bit {i : Instr} (hi : i.mnemonic = .bit) {s : State} {ea : Word}
    (hea : s.effectiveAddress i.operand = some ea) : TestsBits (s.readByte ea) s (exec i s) := by
  rw [exec_eq_execute, hi, execute, bitOp, State.withAddress_of_some hea]
  refine ⟨_, rfl, s.setBitFlags_bit _ 1, s.setBitFlags_bit _ 6, s.setBitFlags_bit _ 7, fun n h1 h6 h7 => ?_,
    State.setBitFlags_a .., State.setBitFlags_x .., State.setBitFlags_y .., s.readByte_setBitFlags _, ?_⟩
  · rw [State.setBitFlags_bit, if_neg h7, if_neg h6, if_neg h1]
  · simp [ControlKept]

/-- Settles O15: each form has the address written for it (R126, R127). -/
theorem bitCompletes : Obligations.BitCompletes := fun _ _ _ => ⟨exec_bit rfl rfl, exec_bit rfl rfl⟩

end Sys2Proof.Machine

/-! PROOFS. The statements on the conditional branches BCC, BCS, BEQ (`43_branches.md`). -/
namespace Sys2Proof.Machine

/-! ### The branch target -/

/-- The displacement is the magnitude with its sign (R140). -/
theorem displacement_eq (b1 : Byte) :
    displacement b1 = if b1.getLsbD 7 then -((offsetMagnitude b1).toNat : Int) else (offsetMagnitude b1).toNat := by
  revert b1
  decide

/-- Settles O25: the word sum or difference of base and magnitude is the integer one modulo 65536. -/
theorem branchTargetIsSignMagnitude : Obligations.BranchTargetIsSignMagnitude := by
  intro base b1
  rw [displacement_eq, branchTarget]
  split
  · rw [BitVec.toNat_sub]
    omega
  · rw [BitVec.toNat_add]
    omega

/-! ### The branch rule -/

/-- `Branch(cond)` moves `PC` and reports the redirection where the condition holds, and keeps all else (R141). -/
theorem branchesIf_branchOp (c : Bool) (b1 : Byte) (s : State) : BranchesIf c b1 s (.next (branchOp c b1 s)) := by
  obtain ⟨rfl, ht⟩ | ⟨rfl, ht⟩ := branchOp_cases c b1 s
  · rw [ht]
    exact ⟨_, rfl, rfl, rfl, rfl, rfl, rfl, rfl, fun _ => rfl, rfl, rfl, rfl⟩
  · rw [ht]
    exact ⟨s, rfl, rfl, rfl, rfl, rfl, rfl, rfl, fun _ => rfl, rfl, rfl, rfl⟩

/-- Settles O22: each branch is `Branch(cond)` of its flag, at the bit of the flag in `P` (R14, R142 to R144). -/
theorem branchesComplete : Obligations.BranchesComplete := by
  intro s b1
  have hC : s.testFlag .carry = s.p.getLsbD 0 := s.testFlag_eq .carry
  have hZ : s.testFlag .zero = s.p.getLsbD 1 := s.testFlag_eq .zero
  rw [← hC, ← hZ]
  exact ⟨branchesIf_branchOp _ b1 s, branchesIf_branchOp _ b1 s, branchesIf_branchOp _ b1 s⟩

/-! ### The branch to itself -/

/-- The displacement -2 leads from the address after a branch to its opcode (R145). -/
theorem branchTarget_minus_two (w : Word) : branchTarget (w + 2) 0x82 = w := by
  have hmag : offsetMagnitude 0x82 = 2 := rfl
  rw [branchTarget, if_pos (by decide), hmag, add_sub_cancel_right]

/-- A BCC to itself with Carry clear, between steps, in a core that runs (R145, R238). -/
structure State.AtBccToItself (s : State) : Prop where
  running : s.rs = .running
  noSnapshot : s.pbd = none
  noRedirect : s.redirected = false
  opcode : s.readByte s.pc = 0x90
  offset : s.readByte (s.pc + 1) = 0x82
  carryClear : s.p.getLsbD 0 = false

theorem State.AtBccToItself.decode_fetch {s : State} (h : s.AtBccToItself) :
    decode s.fetchBytes = .ok (.bcc 0x82, [s.readByte (s.pc + 2)]) := by
  have hbytes : s.fetchBytes = [0x90, 0x82, s.readByte (s.pc + 2)] := by
    rw [← h.opcode, ← h.offset]
    rfl
  rw [hbytes]
  rfl

/-- After its execution, the end of the step leaves the state the step began in (R23, R145). -/
theorem State.AtBccToItself.endStep_branchOp {s : State} (h : s.AtBccToItself) :
    (branchOp true 0x82 s.beginExecution).endStep = s := by
  have hpc : branchTarget (s.pc + 1 + 1) 0x82 = s.pc := by
    rw [add_assoc]
    exact branchTarget_minus_two s.pc
  calc (branchOp true 0x82 s.beginExecution).endStep
      = { s with pc := branchTarget (s.pc + 1 + 1) 0x82, pbd := none, redirected := false } := rfl
    _ = { s with pc := s.pc, pbd := s.pbd, redirected := s.redirected } := by
        rw [hpc, ← h.noSnapshot, ← h.noRedirect]
    _ = s := rfl

theorem State.AtBccToItself.step_eq {s : State} (h : s.AtBccToItself) : step s = .next s := by
  have hb : TakesBranch .bcc s.beginExecution := .inl ⟨rfl, h.carryClear⟩
  have hexec : execute .bcc (.relative 0x82) s.beginExecution = branchOp true 0x82 s.beginExecution := hb.execute_eq _
  have hred : (branchOp true 0x82 s.beginExecution).hasRedirected redirectDetect = true :=
    (hasRedirected_pcCompare_branchOp s 0x82).mpr (by decide)
  rw [step_of_decode h.running h.decode_fetch, Instr.mnemonic, Instr.operand, hexec, State.advance_of_redirected hred,
    h.endStep_branchOp]

/-- A state that a step leaves as it is stays as it is under any number of steps. -/
theorem coreRun_of_step_self {s : State} (h : step s = .next s) (k : Nat) : Sys2Proof.core.run k s = .next s := by
  induction k with
  | zero => rfl
  | succ k ih => rw [coreRun_succ h, ih]

/-- A core that runs has not faulted (R199). -/
theorem State.faulted_of_running {s : State} (h : s.rs = .running) : s.faulted = false := by
  rw [State.faulted, h]
  rfl

/-- Settles O44: one step of the branch comes back to the state, so every number of steps does, and it is running. -/
theorem branchToItselfRunsForEver : Obligations.BranchToItselfRunsForEver := by
  intro k s hr hpbd hred hop hoff hc
  have hself : step s = .next s := State.AtBccToItself.step_eq ⟨hr, hpbd, hred, hop, hoff, hc⟩
  refine ⟨coreRun_of_step_self hself k, fun j t _ ht => ?_⟩
  obtain rfl : s = t := Host.Outcome.next.inj ((coreRun_of_step_self hself j).symm.trans ht)
  exact State.faulted_of_running hr

end Sys2Proof.Machine

/-! PROOFS. The statements on the loads LDA, LDX, LDY and the store STA (`44_load_store.md`). -/
namespace Sys2Proof.Machine

/-! ### LDA -/

/-- LDA in any form that has an operand value (R150). -/
theorem exec_lda {i : Instr} (hi : i.mnemonic = .lda) {s : State} {v : Byte} (hv : s.operandValue i.operand = some v) :
    SetsA v s (exec i s) := by
  rw [exec_eq_execute, hi, execute, ldaOp, State.withOperand_of_some hv]
  exact setsA_setZN s v

/-- Settles O16: each form has the operand value written for it (R151 to R158). -/
theorem ldaCompletes : Obligations.LdaCompletes := fun _ _ _ =>
  ⟨exec_lda rfl rfl, exec_lda rfl rfl, exec_lda rfl rfl, exec_lda rfl rfl, exec_lda rfl rfl, exec_lda rfl rfl,
    exec_lda rfl rfl, exec_lda rfl rfl⟩

/-! ### LDX -/

/-- `X` written together with its Zero and Negative changes nothing else. -/
theorem setsX_setZN (s : State) (v : Byte) : SetsX v s (.next ({ s with x := v }.setZN v)) :=
  ⟨_, rfl, State.setZN_x .., zeroNegativeFrom_setZN rfl v, State.setZN_a .., State.setZN_y ..,
    State.readByte_setZN _ v, by simp [ControlKept]⟩

/-- LDX in any form that has an operand value (R159). -/
theorem exec_ldx {i : Instr} (hi : i.mnemonic = .ldx) {s : State} {v : Byte} (hv : s.operandValue i.operand = some v) :
    SetsX v s (exec i s) := by
  rw [exec_eq_execute, hi, execute, ldxOp, State.withOperand_of_some hv]
  exact setsX_setZN s v

/-- Settles O17: each form has the operand value written for it (R160 to R164). -/
theorem ldxCompletes : Obligations.LdxCompletes := fun _ _ _ =>
  ⟨exec_ldx rfl rfl, exec_ldx rfl rfl, exec_ldx rfl rfl, exec_ldx rfl rfl, exec_ldx rfl rfl⟩

/-! ### LDY -/

/-- `Y` written together with its Zero and Negative changes nothing else. -/
theorem setsY_setZN (s : State) (v : Byte) : SetsY v s (.next ({ s with y := v }.setZN v)) :=
  ⟨_, rfl, State.setZN_y .., zeroNegativeFrom_setZN rfl v, State.setZN_a .., State.setZN_x ..,
    State.readByte_setZN _ v, by simp [ControlKept]⟩

/-- LDY in any form that has an operand value (R165). -/
theorem exec_ldy {i : Instr} (hi : i.mnemonic = .ldy) {s : State} {v : Byte} (hv : s.operandValue i.operand = some v) :
    SetsY v s (exec i s) := by
  rw [exec_eq_execute, hi, execute, ldyOp, State.withOperand_of_some hv]
  exact setsY_setZN s v

/-- Settles O18: each form has the operand value written for it (R166 to R170). -/
theorem ldyCompletes : Obligations.LdyCompletes := fun _ _ _ =>
  ⟨exec_ldy rfl rfl, exec_ldy rfl rfl, exec_ldy rfl rfl, exec_ldy rfl rfl, exec_ldy rfl rfl⟩

/-! ### STA -/

/-- STA in any form that has an effective address (R171). -/
theorem exec_sta {i : Instr} (hi : i.mnemonic = .sta) {s : State} {ea : Word}
    (hea : s.effectiveAddress i.operand = some ea) : StoresAAt ea s (exec i s) := by
  rw [exec_eq_execute, hi, execute, staOp_of_address hea]
  exact ⟨_, rfl, s.readByte_writeByte_self ea s.a, fun _ hb => State.readByte_writeByte_ne hb, rfl, rfl, rfl, rfl,
    rfl, rfl, rfl, rfl, rfl⟩

/-- Settles O19: each form has the address written for it (R172 to R178). -/
theorem staCompletes : Obligations.StaCompletes := fun _ _ _ =>
  ⟨exec_sta rfl rfl, exec_sta rfl rfl, exec_sta rfl rfl, exec_sta rfl rfl, exec_sta rfl rfl, exec_sta rfl rfl,
    exec_sta rfl rfl⟩

end Sys2Proof.Machine

/-! PROOFS. The statements on the register instructions TAX and INX (`45_register_ops.md`). -/
namespace Sys2Proof.Machine

/-- The opcode of an Implicit instruction at `PC` decodes to it, and leaves the two bytes after it (R52, R82). -/
theorem decode_fetch_implicit {s : State} {i : Instr} (ho : i.operand = .implicit) (hop : s.readByte s.pc = i.opcode) :
    decode s.fetchBytes = .ok (i, [s.readByte (s.pc + 1), s.readByte (s.pc + 2)]) := by
  have hbytes : s.fetchBytes = encode i ++ [s.readByte (s.pc + 1), s.readByte (s.pc + 2)] := by
    rw [State.fetchBytes, hop, encode, ho]
    rfl
  rw [hbytes]
  exact decodeOfEncodeIsIdentity i _

/-- A step whose instruction sets `X` leaves that `X` and its Zero and Negative, and `PC` past the instruction (R94, R95). -/
theorem step_of_setsX {s : State} {i : Instr} {rest : List Byte} {v : Byte} (hr : s.rs = .running)
    (hdec : decode s.fetchBytes = .ok (i, rest)) (hx : SetsX v s.beginExecution (exec i s.beginExecution)) :
    ∃ t, step s = .next t ∧ t.x = v ∧ ZeroNegativeFrom v s t ∧ t.a = s.a ∧ t.y = s.y ∧ MemoryKept s t ∧
      t.pc = s.pc + BitVec.ofNat 16 i.length ∧ t.rs = s.rs ∧ t.hc = s.hc := by
  obtain ⟨u, hu, hux, hflags, ha, hy, hmem, hctl⟩ := hx
  have hpc := State.advance_pc_of_controlKept hr hctl i.length
  obtain ⟨-, hrs, hhc, -⟩ := hctl
  have hexec : execute i.mnemonic i.operand s.beginExecution = u :=
    Host.Outcome.next.inj ((exec_eq_execute i _).symm.trans hu)
  have hflags' : ZeroNegativeFrom v s (u.advance redirectDetect i.length) := by
    rw [ZeroNegativeFrom, State.advance_p]
    exact hflags
  refine ⟨_, step_of_decode hr hdec, ?_⟩
  rw [hexec]
  exact ⟨(State.advance_x ..).trans hux, hflags', (State.advance_a ..).trans ha, (State.advance_y ..).trans hy,
    fun b => (State.readByte_advance ..).trans (hmem b), hpc, (State.advance_rs ..).trans hrs,
    (State.advance_hc ..).trans hhc⟩

/-- TAX (R190). -/
theorem exec_tax (s : State) : SetsX s.a s (exec .tax s) := setsX_setZN s s.a

/-- INX (R191). -/
theorem exec_inx (s : State) : SetsX (s.x + 1) s (exec .inx s) := setsX_setZN s (s.x + 1)

/-- Settles O20: TAX writes `A` to `X`, and 0xAA is its opcode. -/
theorem taxCompletes : Obligations.TaxCompletes := fun s =>
  ⟨exec_tax s, fun hr hop => step_of_setsX hr (decode_fetch_implicit (i := .tax) rfl hop) (exec_tax s.beginExecution)⟩

/-- Settles O21: INX writes `X + 1` to `X`, and 0xE8 is its opcode. -/
theorem inxCompletes : Obligations.InxCompletes := fun s =>
  ⟨exec_inx s, fun hr hop => step_of_setsX hr (decode_fetch_implicit (i := .inx) rfl hop) (exec_inx s.beginExecution)⟩

end Sys2Proof.Machine

/-! PROOFS. The statement on the normal halt BRK (`46_brk_and_unrecognized.md`). -/
namespace Sys2Proof.Machine

/-- A halted core only ends the step (R95). -/
theorem State.advance_of_halted {s : State} (h : s.rs = .halted) (d : RedirectDetect) (n : Nat) :
    s.advance d n = s.endStep := if_pos (by simp [h])

/-- BRK (R195, R196). -/
theorem exec_brk (s : State) : exec .brk s = .next s.haltBrk := rfl

/-- Settles O23: 0x00 is the opcode of BRK, the fetch moves `PC` one on, and the advance of a halted core keeps it there. -/
theorem brkHaltsNormally : Obligations.BrkHaltsNormally := by
  refine fun s => ⟨exec_brk s, fun hr hop => ?_⟩
  have hexec : execute Instr.brk.mnemonic Instr.brk.operand s.beginExecution = s.beginExecution.haltBrk := rfl
  rw [step_of_decode hr (decode_fetch_implicit (i := .brk) rfl hop), hexec, State.advance_of_halted (State.haltBrk_rs _)]
  rfl

end Sys2Proof.Machine

/-! PROOFS. The statements on the fatal conditions (`60_exceptions.md`): what `UnsupportedAddressingMode` leaves unchanged, and
the halted core. -/
namespace Sys2Proof.Machine

/-! ### The fatal condition `UnsupportedAddressingMode` -/

/-- A rule that asks for an operand value comes to a cause its continuation never comes to only by raising it (R83, R202). -/
theorem State.withOperand_eq_raise {s : State} {o : Operand} {k : Byte → State} {c : HaltCause}
    (h : (s.withOperand o k).hc = c) (hk : ∀ v, (k v).hc ≠ c) : s.withOperand o k = s.raise c s.opcodeAddress := by
  obtain ⟨v, -, ht⟩ | ⟨-, ht⟩ := s.withOperand_cases o k
  · exact absurd (ht ▸ h) (hk v)
  · rw [ht, State.raise_hc] at h
    rw [ht, h]

/-- The same of a rule that asks for an effective address (R81, R82, R202). -/
theorem State.withAddress_eq_raise {s : State} {o : Operand} {k : Word → State} {c : HaltCause}
    (h : (s.withAddress o k).hc = c) (hk : ∀ ea, (k ea).hc ≠ c) : s.withAddress o k = s.raise c s.opcodeAddress := by
  obtain ⟨ea, -, ht⟩ | ⟨-, ht⟩ := s.withAddress_cases o k
  · exact absurd (ht ▸ h) (hk ea)
  · rw [ht, State.raise_hc] at h
    rw [ht, h]

@[simp] theorem branchOp_hc (c : Bool) (b1 : Byte) (s : State) : (branchOp c b1 s).hc = s.hc := by cases c <;> rfl

/-- A rule comes to the cause `UnsupportedAddressingMode` by raising it and in no other way, for any mnemonic and operand
(R94, R202). -/
theorem execute_eq_raise {m : Mnemonic} {o : Operand} {s : State} {mode : Mode}
    (hs : s.hc ≠ .unsupportedAddressingMode mode) (h : (execute m o s).hc = .unsupportedAddressingMode mode) :
    execute m o s = s.raise (.unsupportedAddressingMode mode) s.opcodeAddress := by
  cases m with
  | and | lda | ldx | ldy => exact State.withOperand_eq_raise h fun v => by simpa using hs
  | sta | bit => exact State.withAddress_eq_raise h fun ea => by simpa using hs
  | asl =>
    obtain ⟨-, ht⟩ | ⟨ea, -, ht⟩ | ⟨-, ht⟩ := aslOp_cases o s
    · exact absurd h (by simpa [execute, ht] using hs)
    · exact absurd h (by simpa [execute, ht] using hs)
    · rw [execute, ht, State.raise_hc] at h
      rw [execute, ht, h]
  | brk => simp [execute] at h
  | tax | inx | bcc | bcs | beq => exact absurd h (by simpa [execute, taxOp, inxOp] using hs)

/-- The opcode's address is where `PC` was before the fetch (R92). -/
@[simp] theorem State.opcodeAddress_beginExecution (s : State) : s.beginExecution.opcodeAddress = s.pc :=
  add_sub_cancel_right s.pc 1

/-- Settles O41: the row raises the cause with `PC` back at the opcode, and the advance of a halted core only ends the step. -/
theorem unsupportedModeChangesNothingElse : Obligations.UnsupportedModeChangesNothingElse := by
  intro cfg s m hr hs h
  cases hl : cfg.optable.lookup (s.readByte s.pc) with
  | none => simp [stepTable_of_lookup_none hr hl] at h
  | some d =>
    rw [stepTable_of_lookup_some hr hl] at h ⊢
    have hraise : executeRow d s = s.beginExecution.raise (.unsupportedAddressingMode m) s.pc := by
      rw [← State.opcodeAddress_beginExecution]
      exact execute_eq_raise (by simp [hs]) (State.advance_hc _ _ _ ▸ h)
    rw [hraise, State.advance_of_halted (State.raise_rs _ _ _)]
    rfl

/-- Settles O42: a halted core is not running. -/
theorem haltedIsAbsorbing : Obligations.HaltedIsAbsorbing :=
  fun k s h => coreRun_of_not_running (by simp [h]) k

end Sys2Proof.Machine

/-! PROOFS. The statements on the host operations (`70_reset_and_hazards.md`): `load`, `reset` and the boot sequence. -/
namespace Sys2Proof.Machine

/-! ### A sequence of bytes written -/

/-- A byte read after a sequence written that is no longer than the address space: the byte of the sequence at the distance
from its start, the old byte past its end (R32, R39). -/
theorem State.readByte_writeBytes (s : State) (ad b : Word) {bs : List Byte} (h : bs.length ≤ 65536) :
    (s.writeBytes ad bs).readByte b = bs.getD (b - ad).toNat (s.readByte b) := by
  induction bs generalizing s ad with
  | nil => rfl
  | cons v bs ih =>
    rw [List.length_cons] at h
    rw [State.writeBytes, ih _ _ (Nat.le_of_succ_le h), State.readByte_writeByte]
    by_cases hb : b = ad
    · subst hb
      have hpast : bs.length ≤ (b - (b + 1)).toNat := by bv_omega
      rw [if_pos rfl, List.getD_eq_default _ _ hpast, BitVec.sub_self]
      rfl
    · have hnext : (b - ad).toNat = (b - (ad + 1)).toNat + 1 := by bv_omega
      rw [if_neg hb, hnext, List.getD_cons_succ]

/-- A sequence written changes memory alone (R32). -/
theorem State.writeBytes_with_mem (s : State) (ad : Word) (bs : List Byte) (m : Memory) :
    { s.writeBytes ad bs with mem := m } = { s with mem := m } := by
  induction bs generalizing s ad with
  | nil => rfl
  | cons v bs ih => exact ih (s.writeByte ad v) (ad + 1)

/-! ### `load` -/

/-- `load(bytes)` takes at most 0x8000 bytes, and writes them and then the reset vector (R224, R225). -/
theorem load_eq_some {bytes : List Byte} {s t : State} :
    load bytes s = some t ↔
      bytes.length ≤ 0x8000 ∧ t = (s.writeBytes loadOrigin bytes).writeWord resetVector loadOrigin := by
  rw [load, Option.ite_none_right_eq_some, Option.some_inj, eq_comm (a := t)]
  rfl

theorem exists_load {bytes : List Byte} (h : bytes.length ≤ 0x8000) (s : State) : ∃ t, load bytes s = some t :=
  ⟨_, load_eq_some.mpr ⟨h, rfl⟩⟩

/-- A byte read after a load: the reset vector holds the origin, and elsewhere is the program, with what was there past its
end (R224). -/
theorem readByte_load {bytes : List Byte} {s t : State} (h : load bytes s = some t) (b : Word) :
    t.readByte b =
      if b = 0xFFFD then 0x80 else if b = 0xFFFC then 0x00 else bytes.getD (b - 0x8000).toNat (s.readByte b) := by
  obtain ⟨hlen, rfl⟩ := load_eq_some.mp h
  rw [State.readByte_writeWord, State.readByte_writeBytes _ _ _ (hlen.trans (by decide))]
  rfl

/-- The reset vector leads to the program (R221, R224). -/
theorem hostReset_pc_of_load {bytes : List Byte} {s t : State} (h : load bytes s = some t) :
    (hostReset t).pc = 0x8000 := by
  obtain ⟨-, rfl⟩ := load_eq_some.mp h
  exact State.readWord_writeWord _ _ _

/-- Settles O48: each address by the read after a load, at its distance from 0x8000. -/
theorem loadPlacesTheProgram : Obligations.LoadPlacesTheProgram := by
  refine ⟨fun bytes s hlen => ?_, fun bytes s hlen => if_neg (Nat.not_le.mpr hlen)⟩
  obtain ⟨t, ht⟩ := exists_load hlen s
  have hread := readByte_load ht
  refine ⟨t, ht, fun i hi hlow hhigh => ?_, hread _, hread _, fun b hb hlow hhigh => ?_, ?_⟩
  · have hdist : (BitVec.ofNat 16 (0x8000 + i) - 0x8000).toNat = i := by bv_omega
    rw [hread, if_neg (by bv_omega), if_neg (by bv_omega), hdist, List.getD_eq_getElem _ _ hi]
  · have hpast : bytes.length ≤ (b - 0x8000).toNat := by bv_omega
    rw [hread, if_neg hhigh, if_neg hlow, List.getD_eq_default _ _ hpast]
  · obtain ⟨-, rfl⟩ := load_eq_some.mp ht
    exact State.writeBytes_with_mem s loadOrigin bytes s.mem

/-! ### `reset` and the boot sequence -/

/-- Settles O46: `reset()` by definition; the vector of a constructed core reads 0x0000, that of a loaded one 0x8000. -/
theorem resetReadsTheVector : Obligations.ResetReadsTheVector :=
  ⟨fun _ => ⟨rfl, rfl, rfl, rfl, rfl, rfl, rfl, fun _ => rfl⟩, rfl, rfl, fun _ _ _ => hostReset_pc_of_load⟩

/-- The first three bytes of a program that 0x00 follows. -/
theorem take_three_padded (bytes : List Byte) :
    (bytes ++ [0x00, 0x00, 0x00]).take 3 = [bytes.getD 0 0x00, bytes.getD 1 0x00, bytes.getD 2 0x00] := by
  match bytes with
  | [] | [_] | [_, _] | _ :: _ :: _ :: _ => rfl

/-- Settles O49: the fetch reads the load at the distances 0, 1 and 2, over a memory of 0x00. -/
theorem bootStartsTheProgram : Obligations.BootStartsTheProgram := by
  intro bytes hlen
  obtain ⟨t, ht⟩ := exists_load hlen State.construct
  have hpc := hostReset_pc_of_load ht
  have hread : ∀ b, (hostReset t).readByte b = t.readByte b := fun _ => rfl
  refine ⟨hostReset t, congrArg _ ht, rfl, rfl, hpc, rfl, rfl, rfl, rfl, ?_⟩
  rw [take_three_padded, State.fetchBytes, hpc, hread, hread, hread, readByte_load ht, readByte_load ht, readByte_load ht]
  rfl

end Sys2Proof.Machine
